-- ==== Sys2Proof/Word.lean ====
section
/-! DEFINITION. The words of the gmmkctl protocol encoder: bytes, 16-bit and 32-bit words, register offsets and
64-byte frames (spec/00_scope.md R8, R9, R11; spec/10_state.md R17). -/

namespace Sys2Proof

/-- A byte: 8 bits, value 0 to 255 (R10). -/
abbrev Byte := BitVec 8

/-- A 16-bit value: a checksum or a key-color byte offset (R69). -/
abbrev Half := BitVec 16

/-- A 32-bit register word (R9 REG_WIDTH). -/
abbrev Word := BitVec 32

/-- A byte offset into the 1024-byte register space: 10 bits (R17, R46). -/
abbrev Offset := BitVec 10

/-- A frame: 64 bytes (R8 PACKET_SIZE, R60). The buffers PB and FB have the same shape (R39, R40). -/
abbrev Frame := Vector Byte 64

/-- Bytes 8 to 63 of a frame: the argument or colour-data area (R67, R68). -/
abbrev DataArea := Vector Byte 56

end Sys2Proof
end

