-- ==== Sys2Proof/Config.lean ====
section
/-! DEFINITION. The fixed protocol constants (spec/00_scope.md R8), the parameters of the register wrapper (R9), the
parameters the spec leaves OPEN, and the free values: everything a step draws that the spec leaves unspecified. -/

namespace Sys2Proof.Config

/-! ### Fixed protocol constants (R8) -/

/-- R8 PACKET_SIZE. -/
@[simp] abbrev packetSize : Nat := 64
/-- R8 KEYCOLORS_DATA_SIZE. -/
@[simp] abbrev keycolorsDataSize : Nat := 56
/-- R8 MAX_KEY: the clamp bound and exclusive end of the key range (90_conflicts.md C1). -/
@[simp] abbrev maxKey : Nat := 126
/-- R8 KEYS_PER_FRAME. -/
@[simp] abbrev keysPerFrame : Nat := 18
/-- R8 MAX_KC_BYTES. -/
@[simp] abbrev maxKcBytes : Nat := 54
/-- R8 CTRL_TAG. -/
@[simp] abbrev ctrlTag : Byte := 0x00#8
/-- R8 KC_TAG. -/
@[simp] abbrev kcTag : Byte := 0x04#8
/-- R8 CMD_START. -/
@[simp] abbrev cmdStart : Byte := 0x01#8
/-- R8 CMD_END. -/
@[simp] abbrev cmdEnd : Byte := 0x02#8
/-- R8 CMD_SUBCOMMAND. -/
@[simp] abbrev cmdSubcommand : Byte := 0x06#8
/-- R8 CMD_KEYCOLORS. -/
@[simp] abbrev cmdKeycolors : Byte := 0x11#8
/-- R8 SUBCMD_DESC_OFFSET. -/
@[simp] abbrev subcmdDescOffset : Nat := 4
/-- R8 SUBCMD_ARG_OFFSET. -/
@[simp] abbrev subcmdArgOffset : Nat := 8
/-- R8 MAX_SUBCMD_ARG. -/
@[simp] abbrev maxSubcmdArg : Nat := 56
/-- R8 KC_DATA_OFFSET. -/
@[simp] abbrev kcDataOffset : Nat := 8
/-- R8 CHECKSUM_FIRST: the first offset the checksum sums; CHECKSUM_LAST is 63, the last byte of a frame. -/
@[simp] abbrev checksumFirst : Nat := 3

/-! ### Parameters of the register wrapper (R9) -/

/-- R9 CB_DEPTH. -/
@[simp] abbrev cbDepth : Nat := 126
/-- R9 the reset value of TIMEOUT_MS. -/
@[simp] abbrev timeoutReset : Word := 1000#32

/-! ### OPEN parameters: the block reads none of them (R9, R142, R143; log 14) -/

/-- R9 EP_OUT: the USB OUT endpoint of the transport. -/
opaque epOut : Byte
/-- R9 EP_IN: the USB IN endpoint of the transport. -/
opaque epIn : Byte
/-- R9 TIMEOUT_ZERO_MEANING: how long the transport waits, in milliseconds, when TIMEOUT_MS is 0 (none: without bound). -/
opaque timeoutZeroMeaning : Option Nat

/-! ### Free values: the n-th draw (log 3, log 4, log 1) -/

/-- The word a requester read returns where the spec says any value: an FB read while BUSY (R41), any read while `rst`
is asserted (R147). -/
opaque freeWord : Nat → Word
/-- The three colour bytes of a colour-buffer entry that nothing has written since reset (R43), red in the low byte. -/
opaque freeColour : Nat → BitVec 24
/-- Which of the permitted responses the transport picks for an exchange nobody has scheduled an answer for (R123). -/
opaque freeAnswer : Nat → BitVec 2

end Sys2Proof.Config
end

