-- ==== Sys2Proof/Syntax.lean ====
section
/-! DEFINITION. The instructions: one constructor per row of spec/opcode_table.json. The first twelve are the request
words a requester writes to CMD (spec/30_encoding.md R56, R57), the last eleven the frames the block hands to the
transport (R60 to R68, R73); R1 names these two as the block's instructions. -/

namespace Sys2Proof

/-- The four bytes of a subcommand descriptor, frame bytes 4 to 7 (R67). -/
structure Descriptor where
  d0 : Byte
  d1 : Byte
  d2 : Byte
  d3 : Byte
  deriving DecidableEq, Repr

/-- An instruction. `wrap` is the WRAP bit of a request word (R56, R58); `ck` is a frame's checksum field, bytes 1 and 2
(R62). -/
inductive Instr where
  /-- Request TXN_BEGIN, OP 0x01 (R126). -/
  | txnBegin
  /-- Request TXN_END, OP 0x02 (R127). -/
  | txnEnd
  /-- Request SUBCOMMAND, OP 0x06 (R84). -/
  | subcommand (wrap : Bool)
  /-- Request KEYCOLORS, OP 0x11 (R110). -/
  | keycolors (wrap : Bool)
  /-- Request SET_MODE, OP 0x20 (R85). -/
  | setMode (wrap : Bool)
  /-- Request SET_BRIGHTNESS, OP 0x21 (R86). -/
  | setBrightness (wrap : Bool)
  /-- Request SET_DELAY, OP 0x22 (R87). -/
  | setDelay (wrap : Bool)
  /-- Request SET_DIRECTION, OP 0x23 (R88). -/
  | setDirection (wrap : Bool)
  /-- Request SET_COLORFUL, OP 0x24 (R89). -/
  | setColorful (wrap : Bool)
  /-- Request SET_COLOR, OP 0x25 (R90). -/
  | setColor (wrap : Bool)
  /-- Request SET_RATE, OP 0x26 (R91). -/
  | setRate (wrap : Bool)
  /-- Request RAW_FRAME, OP 0x30 (R92). -/
  | rawFrame (wrap : Bool)
  /-- The START frame (R65); it has no operand, its checksum is 1. -/
  | frameStart
  /-- The END frame (R66); it has no operand, its checksum is 2. -/
  | frameEnd
  /-- A subcommand frame with any descriptor and the 56 bytes of the argument area (R67). -/
  | frameSubcommand (ck : Half) (desc : Descriptor) (arg : DataArea)
  /-- The subcommand frame of MODE, descriptor 1, 0, 0, 0, with its one argument byte (R82, R85). -/
  | frameSubcommandMode (ck : Half) (arg : Byte)
  /-- The subcommand frame of BRIGHTNESS, descriptor 1, 1, 0, 0 (R82, R86). -/
  | frameSubcommandBrightness (ck : Half) (arg : Byte)
  /-- The subcommand frame of DELAY, descriptor 1, 2, 0, 0 (R82, R87). -/
  | frameSubcommandDelay (ck : Half) (arg : Byte)
  /-- The subcommand frame of DIRECTION, descriptor 1, 3, 0, 0 (R82, R88). -/
  | frameSubcommandDirection (ck : Half) (arg : Byte)
  /-- The subcommand frame of COLORFUL, descriptor 1, 4, 0, 0 (R82, R89). -/
  | frameSubcommandColorful (ck : Half) (arg : Byte)
  /-- The subcommand frame of COLOR, descriptor 3, 5, 0, 0, with its three argument bytes (R82, R90). -/
  | frameSubcommandColor (ck : Half) (r g b : Byte)
  /-- The subcommand frame of RATE, descriptor 1, 0x0F, 0, 0 (R82, R91). -/
  | frameSubcommandRate (ck : Half) (arg : Byte)
  /-- A key-color frame: byte 4 (the byte count), bytes 5 and 6 (the byte offset) and the colour data area (R68). -/
  | frameKeycolors (ck : Half) (count : Byte) (offset : Half) (data : DataArea)
  deriving DecidableEq, Repr

end Sys2Proof
end

