-- ==== Sys2Proof/WellFormed.lean ====
section
/-! DEFINITION. When an instruction is well formed. Every request word the syntax can hold is legal (R57, R58). A frame is
well formed when it is one the block can build: its checksum field is the sum of bytes 3 to 63 (R62), its layout is that of
its row (R67, R68), and a subcommand frame that a named row describes is written as that row (log 8). -/

namespace Sys2Proof

/-- The sum of a list of bytes modulo 2^16 (R94), as a frame's checksum field holds it. -/
def sumBytes (bs : List Byte) : Half := BitVec.ofNat 16 ((bs.map BitVec.toNat).sum)

/-- Every byte of the list is zero (R64). -/
def allZero (bs : List Byte) : Bool := bs.all (· == 0#8)

/-- The seven named descriptors with their argument lengths (R82). -/
def namedDescriptors : List (Descriptor × Nat) :=
  [(⟨1, 0, 0, 0⟩, 1), (⟨1, 1, 0, 0⟩, 1), (⟨1, 2, 0, 0⟩, 1), (⟨1, 3, 0, 0⟩, 1),
   (⟨1, 4, 0, 0⟩, 1), (⟨3, 5, 0, 0⟩, 3), (⟨1, 0x0F, 0, 0⟩, 1)]

/-- The subcommand frame is one of a named row: the row's descriptor, and nothing but zeros after the row's argument
(log 8). -/
def isNamed (d : Descriptor) (arg : DataArea) : Bool :=
  namedDescriptors.any fun row => d == row.1 && allZero (arg.toList.drop row.2)

/-- Bytes 4 to 6 and the colour data of a key-color frame are those of n keys from key s, 1 ≤ n ≤ 18, s + n ≤ 126, with
zeros after the last colour (R68, R70, R105). -/
def keycolorsShape (count : Byte) (offset : Half) (data : DataArea) : Bool :=
  decide (count.toNat % 3 = 0) && decide (3 ≤ count.toNat) && decide (count.toNat ≤ Config.maxKcBytes) &&
    decide (offset.toNat % 3 = 0) && decide (offset.toNat + count.toNat ≤ 3 * Config.maxKey) &&
    allZero (data.toList.drop count.toNat)

/-- The checksum field is right (R62, R94): the sum of the command byte and bytes 4 to 63. -/
def Instr.sealed : Instr → Bool
  | .frameSubcommand ck d a => ck == sumBytes ([6, d.d0, d.d1, d.d2, d.d3] ++ a.toList)
  | .frameSubcommandMode ck a => ck == sumBytes [6, 1, 0, a]
  | .frameSubcommandBrightness ck a => ck == sumBytes [6, 1, 1, a]
  | .frameSubcommandDelay ck a => ck == sumBytes [6, 1, 2, a]
  | .frameSubcommandDirection ck a => ck == sumBytes [6, 1, 3, a]
  | .frameSubcommandColorful ck a => ck == sumBytes [6, 1, 4, a]
  | .frameSubcommandColor ck r g b => ck == sumBytes [6, 3, 5, r, g, b]
  | .frameSubcommandRate ck a => ck == sumBytes [6, 1, 0x0F, a]
  | .frameKeycolors ck n o d =>
      ck == sumBytes ([0x11, n, o.extractLsb' 0 8, o.extractLsb' 8 8] ++ d.toList)
  | .txnBegin | .txnEnd | .subcommand _ | .keycolors _ | .setMode _ | .setBrightness _ | .setDelay _ | .setDirection _
  | .setColorful _ | .setColor _ | .setRate _ | .rawFrame _ | .frameStart | .frameEnd => true

/-- The term is the one spelling of its encoding: a subcommand frame of a named row is written as that row (log 8). -/
def Instr.canonical : Instr → Bool
  | .frameSubcommand _ d a => !isNamed d a
  | .txnBegin | .txnEnd | .subcommand _ | .keycolors _ | .setMode _ | .setBrightness _ | .setDelay _ | .setDirection _
  | .setColorful _ | .setColor _ | .setRate _ | .rawFrame _ | .frameStart | .frameEnd
  | .frameSubcommandMode _ _ | .frameSubcommandBrightness _ _ | .frameSubcommandDelay _ _
  | .frameSubcommandDirection _ _ | .frameSubcommandColorful _ _ | .frameSubcommandColor _ _ _ _
  | .frameSubcommandRate _ _ | .frameKeycolors _ _ _ _ => true

/-- The layout of the row holds (R68 for a key-color frame; the other rows' layouts are fixed by their constructors). -/
def Instr.shaped : Instr → Bool
  | .frameKeycolors _ n o d => keycolorsShape n o d
  | .txnBegin | .txnEnd | .subcommand _ | .keycolors _ | .setMode _ | .setBrightness _ | .setDelay _ | .setDirection _
  | .setColorful _ | .setColor _ | .setRate _ | .rawFrame _ | .frameStart | .frameEnd | .frameSubcommand _ _ _
  | .frameSubcommandMode _ _ | .frameSubcommandBrightness _ _ | .frameSubcommandDelay _ _
  | .frameSubcommandDirection _ _ | .frameSubcommandColorful _ _ | .frameSubcommandColor _ _ _ _
  | .frameSubcommandRate _ _ => true

/-- A well-formed instruction. -/
def Instr.wf (i : Instr) : Bool := i.canonical && i.shaped && i.sealed

end Sys2Proof
end

