-- ==== Sys2Proof/Decode.lean ====
section
/-! DEFINITION. Decoding and encoding. `decode` reads four bytes as a request word, low byte first (spec/20_memory.md R49;
spec/30_encoding.md R56 to R59), and sixty-four bytes as a frame (R60 to R68), and rejects everything else by name.
`encode` writes the same encodings. -/

namespace Sys2Proof

/-- Why bytes are no instruction. -/
inductive DecodeError where
  /-- Bits 31:9 of a request word are not zero (R59). -/
  | reservedBits
  /-- The OP field of a request word is not in the map of R57 (R59). -/
  | unknownOp
  /-- WRAP = 1 on TXN_BEGIN or TXN_END (R58, R59). -/
  | wrapNotAllowed
  /-- The frame matches no FRAME64 row; a RAW_FRAME body frame may be such a frame (30_encoding.md, opening). -/
  | noFrameRow
  /-- Neither four bytes (R56) nor sixty-four (R60). -/
  | badLength
  deriving DecidableEq, Repr

/-! ### Byte order (R49) -/

/-- The four bytes of a word, byte k from bits 8k+7:8k (R49). -/
def wordBytes (w : Word) : List Byte :=
  [w.extractLsb' 0 8, w.extractLsb' 8 8, w.extractLsb' 16 8, w.extractLsb' 24 8]

/-- The word whose byte k is bits 8k+7:8k (R49). -/
def wordOfBytes (b0 b1 b2 b3 : Byte) : Word := b3 ++ b2 ++ b1 ++ b0

/-- The low byte of a 16-bit value, which goes first (R69). -/
def loByte (v : Half) : Byte := v.extractLsb' 0 8

/-- The high byte of a 16-bit value (R69). -/
def hiByte (v : Half) : Byte := v.extractLsb' 8 8

/-- The 16-bit value of a low byte and a high byte (R69). -/
def halfOfBytes (lo hi : Byte) : Half := hi ++ lo

/-! ### The request word (R56, R57) -/

/-- OP of TXN_BEGIN (R57). -/
@[simp] abbrev Op.txnBegin : Byte := 0x01#8
/-- OP of TXN_END (R57). -/
@[simp] abbrev Op.txnEnd : Byte := 0x02#8
/-- OP of SUBCOMMAND (R57). -/
@[simp] abbrev Op.subcommand : Byte := 0x06#8
/-- OP of KEYCOLORS (R57). -/
@[simp] abbrev Op.keycolors : Byte := 0x11#8
/-- OP of SET_MODE (R57). -/
@[simp] abbrev Op.setMode : Byte := 0x20#8
/-- OP of SET_BRIGHTNESS (R57). -/
@[simp] abbrev Op.setBrightness : Byte := 0x21#8
/-- OP of SET_DELAY (R57). -/
@[simp] abbrev Op.setDelay : Byte := 0x22#8
/-- OP of SET_DIRECTION (R57). -/
@[simp] abbrev Op.setDirection : Byte := 0x23#8
/-- OP of SET_COLORFUL (R57). -/
@[simp] abbrev Op.setColorful : Byte := 0x24#8
/-- OP of SET_COLOR (R57). -/
@[simp] abbrev Op.setColor : Byte := 0x25#8
/-- OP of SET_RATE (R57). -/
@[simp] abbrev Op.setRate : Byte := 0x26#8
/-- OP of RAW_FRAME (R57). -/
@[simp] abbrev Op.rawFrame : Byte := 0x30#8

/-- The request word with the given OP and WRAP fields and bits 31:9 zero (R56). -/
def requestWord (op : Byte) (wrap : Bool) : Word := 0#23 ++ BitVec.ofBool wrap ++ op

/-- Field OP, bits 7:0 (R56). -/
def wordOp (v : Word) : Byte := v.extractLsb' 0 8

/-- Field WRAP, bit 8 (R56). -/
def wordWrap (v : Word) : Bool := v.getLsbD 8

/-- Bits 31:9 (R56). -/
def wordReserved (v : Word) : BitVec 23 := v.extractLsb' 9 23

/-- A request word as an instruction, or why it is illegal (R57, R58, R59). -/
def decodeRequest (v : Word) : Except DecodeError Instr :=
  if wordReserved v ≠ 0 then .error .reservedBits
  else if wordOp v = Op.txnBegin then (if wordWrap v then .error .wrapNotAllowed else .ok .txnBegin)
  else if wordOp v = Op.txnEnd then (if wordWrap v then .error .wrapNotAllowed else .ok .txnEnd)
  else if wordOp v = Op.subcommand then .ok (.subcommand (wordWrap v))
  else if wordOp v = Op.keycolors then .ok (.keycolors (wordWrap v))
  else if wordOp v = Op.setMode then .ok (.setMode (wordWrap v))
  else if wordOp v = Op.setBrightness then .ok (.setBrightness (wordWrap v))
  else if wordOp v = Op.setDelay then .ok (.setDelay (wordWrap v))
  else if wordOp v = Op.setDirection then .ok (.setDirection (wordWrap v))
  else if wordOp v = Op.setColorful then .ok (.setColorful (wordWrap v))
  else if wordOp v = Op.setColor then .ok (.setColor (wordWrap v))
  else if wordOp v = Op.setRate then .ok (.setRate (wordWrap v))
  else if wordOp v = Op.rawFrame then .ok (.rawFrame (wordWrap v))
  else .error .unknownOp

/-! ### Frames (R60 to R68) -/

/-- A frame from its first eight bytes and its data area (R60). -/
def frame64 (b0 b1 b2 b3 b4 b5 b6 b7 : Byte) (rest : DataArea) : Frame := #v[b0, b1, b2, b3, b4, b5, b6, b7] ++ rest

/-- A data area that begins with the given bytes and is zero after them (R64). -/
def dataArea (bs : List Byte) : DataArea := Vector.ofFn fun i => bs.getD i.val 0

/-- Bytes 8 to 63 of a frame (R67, R68). -/
def frameData (f : Frame) : DataArea := Vector.ofFn fun i => f[i.val + 8]

/-- Bytes 1 and 2 of a frame, the checksum field (R62). -/
def frameChecksumField (f : Frame) : Half := halfOfBytes f[1] f[2]

/-- The bytes of the START frame: 00 01 00 01 and 60 zero bytes (R65). -/
def encStart : Frame := frame64 0x00 0x01 0x00 0x01 0 0 0 0 (dataArea [])

/-- The bytes of the END frame: 00 02 00 02 and 60 zero bytes (R66). -/
def encEnd : Frame := frame64 0x00 0x02 0x00 0x02 0 0 0 0 (dataArea [])

/-- The bytes of a subcommand frame with the checksum field `ck` (R67). -/
def encSubcommand (ck : Half) (d : Descriptor) (arg : DataArea) : Frame :=
  frame64 Config.ctrlTag (loByte ck) (hiByte ck) Config.cmdSubcommand d.d0 d.d1 d.d2 d.d3 arg

/-- The bytes of a key-color frame with the checksum field `ck` (R68). -/
def encKeycolors (ck : Half) (count : Byte) (offset : Half) (data : DataArea) : Frame :=
  frame64 Config.kcTag (loByte ck) (hiByte ck) Config.cmdKeycolors count (loByte offset) (hiByte offset) 0 data

/-- The descriptor of MODE (R82). -/
def descMode : Descriptor := ⟨1, 0, 0, 0⟩
/-- The descriptor of BRIGHTNESS (R82). -/
def descBrightness : Descriptor := ⟨1, 1, 0, 0⟩
/-- The descriptor of DELAY (R82). -/
def descDelay : Descriptor := ⟨1, 2, 0, 0⟩
/-- The descriptor of DIRECTION (R82). -/
def descDirection : Descriptor := ⟨1, 3, 0, 0⟩
/-- The descriptor of COLORFUL (R82). -/
def descColorful : Descriptor := ⟨1, 4, 0, 0⟩
/-- The descriptor of COLOR (R82). -/
def descColor : Descriptor := ⟨3, 5, 0, 0⟩
/-- The descriptor of RATE (R82). -/
def descRate : Descriptor := ⟨1, 0x0F, 0, 0⟩

/-- A subcommand frame as its row: a named row when the descriptor is the row's and everything after the row's argument
is zero, else the general row (R67, R82; log 8). -/
def decodeSubcommand (ck : Half) (d : Descriptor) (arg : DataArea) : Instr :=
  if allZero (arg.toList.drop 1) && d == descMode then .frameSubcommandMode ck arg[0]
  else if allZero (arg.toList.drop 1) && d == descBrightness then .frameSubcommandBrightness ck arg[0]
  else if allZero (arg.toList.drop 1) && d == descDelay then .frameSubcommandDelay ck arg[0]
  else if allZero (arg.toList.drop 1) && d == descDirection then .frameSubcommandDirection ck arg[0]
  else if allZero (arg.toList.drop 1) && d == descColorful then .frameSubcommandColorful ck arg[0]
  else if allZero (arg.toList.drop 3) && d == descColor then .frameSubcommandColor ck arg[0] arg[1] arg[2]
  else if allZero (arg.toList.drop 1) && d == descRate then .frameSubcommandRate ck arg[0]
  else .frameSubcommand ck d arg

/-- A frame as an instruction, or the name of its rejection (R65 to R68; the FRAME64 rows of the opcode table). -/
def decodeFrame (f : Frame) : Except DecodeError Instr :=
  if f = encStart then .ok .frameStart
  else if f = encEnd then .ok .frameEnd
  else if f[0] = Config.ctrlTag ∧ f[3] = Config.cmdSubcommand then
    .ok (decodeSubcommand (frameChecksumField f) ⟨f[4], f[5], f[6], f[7]⟩ (frameData f))
  else if f[0] = Config.kcTag ∧ f[3] = Config.cmdKeycolors ∧ f[7] = 0 then
    .ok (.frameKeycolors (frameChecksumField f) f[4] (halfOfBytes f[5] f[6]) (frameData f))
  else .error .noFrameRow

/-- Any bytes as an instruction, or the name of their rejection. -/
def decode (bs : List Byte) : Except DecodeError Instr :=
  match bs with
  | [b0, b1, b2, b3] => decodeRequest (wordOfBytes b0 b1 b2 b3)
  | _ => if h : bs.length = 64 then decodeFrame ⟨bs.toArray, by simpa using h⟩ else .error .badLength

/-! ### The encoder -/

/-- The request word of an instruction that is one (R56, R57). -/
def Instr.asRequest : Instr → Option Word
  | .txnBegin => some (requestWord Op.txnBegin false)
  | .txnEnd => some (requestWord Op.txnEnd false)
  | .subcommand w => some (requestWord Op.subcommand w)
  | .keycolors w => some (requestWord Op.keycolors w)
  | .setMode w => some (requestWord Op.setMode w)
  | .setBrightness w => some (requestWord Op.setBrightness w)
  | .setDelay w => some (requestWord Op.setDelay w)
  | .setDirection w => some (requestWord Op.setDirection w)
  | .setColorful w => some (requestWord Op.setColorful w)
  | .setColor w => some (requestWord Op.setColor w)
  | .setRate w => some (requestWord Op.setRate w)
  | .rawFrame w => some (requestWord Op.rawFrame w)
  | .frameStart | .frameEnd | .frameSubcommand _ _ _ | .frameSubcommandMode _ _ | .frameSubcommandBrightness _ _
  | .frameSubcommandDelay _ _ | .frameSubcommandDirection _ _ | .frameSubcommandColorful _ _
  | .frameSubcommandColor _ _ _ _ | .frameSubcommandRate _ _ | .frameKeycolors _ _ _ _ => none

/-- The 64 bytes of an instruction that is a frame (R65 to R68, R82). -/
def Instr.asFrame : Instr → Option Frame
  | .frameStart => some encStart
  | .frameEnd => some encEnd
  | .frameSubcommand ck d a => some (encSubcommand ck d a)
  | .frameSubcommandMode ck a => some (encSubcommand ck descMode (dataArea [a]))
  | .frameSubcommandBrightness ck a => some (encSubcommand ck descBrightness (dataArea [a]))
  | .frameSubcommandDelay ck a => some (encSubcommand ck descDelay (dataArea [a]))
  | .frameSubcommandDirection ck a => some (encSubcommand ck descDirection (dataArea [a]))
  | .frameSubcommandColorful ck a => some (encSubcommand ck descColorful (dataArea [a]))
  | .frameSubcommandColor ck r g b => some (encSubcommand ck descColor (dataArea [r, g, b]))
  | .frameSubcommandRate ck a => some (encSubcommand ck descRate (dataArea [a]))
  | .frameKeycolors ck n o d => some (encKeycolors ck n o d)
  | .txnBegin | .txnEnd | .subcommand _ | .keycolors _ | .setMode _ | .setBrightness _ | .setDelay _ | .setDirection _
  | .setColorful _ | .setColor _ | .setRate _ | .rawFrame _ => none

/-- The bytes of an instruction: four for a request word, sixty-four for a frame. -/
def encode (i : Instr) : List Byte :=
  match i.asRequest, i.asFrame with
  | some w, _ => wordBytes w
  | none, some f => f.toList
  | none, none => []

/-! ### The opcode table's view (R73) -/

/-- The header word of a frame: its first eight bytes read little-endian (R73). -/
def h64 (f : Frame) : BitVec 64 := f[7] ++ f[6] ++ f[5] ++ f[4] ++ f[3] ++ f[2] ++ f[1] ++ f[0]

/-- The `match` and `mask` of the instruction's row of spec/opcode_table.json: over the request word for a REQ32 row, over
the header word H64 for a FRAME64 row. -/
def Instr.tableRow : Instr → BitVec 64 × BitVec 64
  | .txnBegin => (0x00000001, 0xFFFFFFFF)
  | .txnEnd => (0x00000002, 0xFFFFFFFF)
  | .subcommand _ => (0x00000006, 0xFFFFFEFF)
  | .keycolors _ => (0x00000011, 0xFFFFFEFF)
  | .setMode _ => (0x00000020, 0xFFFFFEFF)
  | .setBrightness _ => (0x00000021, 0xFFFFFEFF)
  | .setDelay _ => (0x00000022, 0xFFFFFEFF)
  | .setDirection _ => (0x00000023, 0xFFFFFEFF)
  | .setColorful _ => (0x00000024, 0xFFFFFEFF)
  | .setColor _ => (0x00000025, 0xFFFFFEFF)
  | .setRate _ => (0x00000026, 0xFFFFFEFF)
  | .rawFrame _ => (0x00000030, 0xFFFFFEFF)
  | .frameStart => (0x0000000001000100, 0xFFFFFFFFFFFFFFFF)
  | .frameEnd => (0x0000000002000200, 0xFFFFFFFFFFFFFFFF)
  | .frameSubcommand _ _ _ => (0x0000000006000000, 0x00000000FF0000FF)
  | .frameSubcommandMode _ _ => (0x0000000106000000, 0xFFFFFFFFFF0000FF)
  | .frameSubcommandBrightness _ _ => (0x0000010106000000, 0xFFFFFFFFFF0000FF)
  | .frameSubcommandDelay _ _ => (0x0000020106000000, 0xFFFFFFFFFF0000FF)
  | .frameSubcommandDirection _ _ => (0x0000030106000000, 0xFFFFFFFFFF0000FF)
  | .frameSubcommandColorful _ _ => (0x0000040106000000, 0xFFFFFFFFFF0000FF)
  | .frameSubcommandColor _ _ _ _ => (0x0000050306000000, 0xFFFFFFFFFF0000FF)
  | .frameSubcommandRate _ _ => (0x00000F0106000000, 0xFFFFFFFFFF0000FF)
  | .frameKeycolors _ _ _ _ => (0x0000000011000004, 0xFF000000FF0000FF)

/-- The word the table's match and mask speak of: the request word, or the frame's header word (R73). -/
def Instr.tableWord (i : Instr) : BitVec 64 :=
  match i.asRequest, i.asFrame with
  | some w, _ => w.setWidth 64
  | none, some f => h64 f
  | none, none => 0

/-- The frame whose bytes are the bits of w, byte k from bits 8k+7:8k, zero above (R73's order). -/
def frameOfNat (w : Nat) : Frame := Vector.ofFn fun i => BitVec.ofNat 8 (w >>> (8 * i.val))

/-- The instruction the decoder reads from an instruction whose low `nbits` bits are those of w and whose other bits are
zero. Up to 32 bits may be a request word or the beginning of a frame; no word is both, because a request word's byte 3 is
zero and no frame row has command 0 (log 22). -/
def decodeTableWord (nbits w : Nat) : Option Instr :=
  let bits := w % 2 ^ nbits
  match (if nbits ≤ 32 then (decode (wordBytes (BitVec.ofNat 32 bits))).toOption else none) with
  | some i => some i
  | none => if nbits ≤ 512 then (decode (frameOfNat bits).toList).toOption else none

end Sys2Proof
end

