-- ==== Sys2Proof/Machine/State.lean ====
section
/-! DEFINITION. The state of the block: every register, buffer, flag and internal latch of spec/10_state.md, the reset line
(spec/70_reset_and_hazards.md R147), the model-only marks (R43, R47), and the model's own fields: the agents' moves to come,
the draw counter and two records of what crossed the block's interfaces. Its reset state is R148. -/

namespace Sys2Proof.Machine

/-- SEQ_STATE: the sequencer state (R33). Values 5, 6 and 7 are never reached (S7, log 19). -/
inductive SeqState where
  /-- 0: no command runs. -/
  | idle
  /-- 1: FB holds the sealed START frame; its exchange is outstanding. -/
  | sendStart
  /-- 2: the next frame, or completion, is decided next. -/
  | build
  /-- 3: FB holds a sealed body frame; its exchange, with reply, is outstanding. -/
  | sendBody
  /-- 4: FB holds the sealed END frame; its exchange is outstanding. -/
  | sendEnd
  deriving DecidableEq, Repr

/-- STATUS.ERR: the error codes (R23, R131). Values 5 to 15 are never written (S7, log 19). -/
inductive ErrCode where
  /-- 0: the command completed, or is running. -/
  | none
  /-- 1: PAYLOAD_TOO_LARGE. -/
  | payloadTooLarge
  /-- 2: TRANSPORT. -/
  | transport
  /-- 3: ILLEGAL_REQUEST. -/
  | illegalRequest
  /-- 4: SEQUENCE. -/
  | sequence
  deriving DecidableEq, Repr

/-- An error a command ends with: its ERR code and its DETAIL (R131, R132). -/
structure CmdError where
  code : ErrCode
  detail : BitVec 4
  deriving DecidableEq, Repr

/-- The transport's response to a presented exchange (R123). -/
inductive Response where
  /-- The frame was written and, when a reply was expected, one 64-byte reply was read. -/
  | ok
  /-- The write failed. -/
  | writeFail
  /-- No reply arrived within the timeout. -/
  | readTimeout
  /-- The read failed otherwise. -/
  | readFail
  deriving DecidableEq, Repr

/-- What the block presents on the transport port (R123): the frame, whether a reply is expected, and the timeout, which
means something only when a reply is expected. -/
structure PortRequest where
  frame : Frame
  expectReply : Bool
  timeoutMs : Word
  deriving DecidableEq, Repr

/-- One exchange of a run (R76, R162): the sequencer state that presented it, what was presented, and the response. -/
structure Exchange where
  phase : SeqState
  request : PortRequest
  response : Response
  deriving DecidableEq, Repr

/-- One requester read of a run: the byte offset and the value returned. -/
structure ReadAnswer where
  offset : Offset
  value : Word
  deriving DecidableEq, Repr

/-- A KeyColorEntry: the three channels of a key's colour (R42, R44). -/
structure Colour where
  r : Byte
  g : Byte
  b : Byte
  deriving DecidableEq, Repr

/-- A colour-buffer entry with its model-only mark: whether the requester has written it since reset (R43). -/
structure CbEntry where
  colour : Colour
  written : Bool
  deriving DecidableEq, Repr

/-- A reason recorded in the model's fault mark (R47). -/
inductive FaultMark where
  /-- The chunker read colour-buffer entry `index`, which nothing has written since reset (R43). -/
  | unwrittenColour (index : Nat)
  deriving DecidableEq, Repr

/-- A move of one of the agents around the block (R4, R113, R161). -/
inductive Event where
  /-- The requester reads the register word at a byte offset (R12 MemRead, R50). -/
  | read (offset : Offset)
  /-- The requester writes the register word at a byte offset (R12 MemWrite, R50). -/
  | write (offset : Offset) (value : Word)
  /-- The transport answers the presented exchange (R123). -/
  | respond (r : Response)
  /-- The encoder takes its BUILD step (R118). -/
  | build
  /-- The agent that owes a move makes it (R161), as it does when no move is listed (log 1). -/
  | duty
  /-- The requester's `wait_idle`: it reads STATUS, and again after the next move of another agent, until the value read
  has bit 0 (BUSY) 0 (R75, R153). -/
  | waitIdle
  /-- The platform drives `rst`: true asserts it, false releases it (R147). -/
  | rst (level : Bool)
  deriving DecidableEq, Repr

/-- A register word of the map (R17). -/
inductive Reg where
  | cmd
  | status
  | ctrl
  | timeoutMs
  | desc
  | rawcfg
  | kcRange
  | lastCksum
  /-- Word k of PB: bytes 4k to 4k+3. -/
  | pb (k : Fin 16)
  /-- Word k of FB: bytes 4k to 4k+3. -/
  | fb (k : Fin 16)
  /-- Entry i of CB. -/
  | cb (i : Fin 126)
  /-- An offset the map gives no register (R52). -/
  | unmapped
  deriving DecidableEq, Repr

/-- The state of the block and of the model around it. -/
structure State where
  /-- CMD: the last accepted request word (R18). -/
  cmd : Word
  /-- STATUS.BUSY (R19). -/
  busy : Bool
  /-- STATUS.TXN_OPEN (R20). -/
  txnOpen : Bool
  /-- STATUS.DONE (R21). -/
  done : Bool
  /-- STATUS.OVR (R22). -/
  ovr : Bool
  /-- STATUS.ERR (R23). -/
  err : ErrCode
  /-- STATUS.DETAIL (R24). -/
  detail : BitVec 4
  /-- STATUS.BODY_ACKED (R25). -/
  bodyAcked : Byte
  /-- CTRL.IRQ_EN (R28). -/
  irqEn : Bool
  /-- TIMEOUT_MS (R29). -/
  timeoutMs : Word
  /-- DESC (R30). -/
  desc : Word
  /-- RAWCFG (R31). -/
  rawcfg : Word
  /-- KC_RANGE (R32). -/
  kcRange : Word
  /-- SEQ_STATE, mirrored in STATUS (R26, R33). -/
  seq : SeqState
  /-- LAST_CKSUM bits 15:0 (R34). -/
  lastCksum : Half
  /-- CUR_OP (R35). -/
  curOp : Byte
  /-- CUR_WRAP (R35). -/
  curWrap : Bool
  /-- BODY_PEND (R35). -/
  bodyPend : Bool
  /-- ACC, the checksum accumulator (R36). -/
  acc : Half
  /-- KC_BASE (R37). -/
  kcBase : Byte
  /-- KC_POS (R37). -/
  kcPos : Byte
  /-- KC_REM (R37). -/
  kcRem : Byte
  /-- KC_N (R37). -/
  kcN : Byte
  /-- PB, the payload buffer (R39). -/
  pb : Frame
  /-- FB, the frame buffer (R40). -/
  fb : Frame
  /-- CB, the colour buffer, with the written-since-reset marks (R42, R43). -/
  cb : Vector CbEntry 126
  /-- The model's fault mark: the reasons recorded, oldest first; set when not empty (R47, log 5). -/
  faultMarks : List FaultMark
  /-- The level of the reset input (R147). -/
  rst : Bool
  /-- The model's own: the moves the agents make next, first first (log 1). -/
  inbox : List Event
  /-- The model's own: how many free values have been drawn (log 3). -/
  draws : Nat
  /-- The model's own: the frames handed to the transport, each with its response, oldest first (R76, R162; log 16). -/
  sent : List Exchange
  /-- The model's own: the requester's reads with the values returned, oldest first (log 16). -/
  reads : List ReadAnswer
  deriving DecidableEq, Repr

/-- A colour-buffer entry right after reset: not written; the stored channels are never seen (R43, log 4). -/
def CbEntry.atReset : CbEntry := ⟨⟨0, 0, 0⟩, false⟩

/-- The state right after reset, at the start of a run (R148, R150): no request presented, no fault recorded. -/
def State.reset : State where
  cmd := 0
  busy := false
  txnOpen := false
  done := false
  ovr := false
  err := .none
  detail := 0
  bodyAcked := 0
  irqEn := false
  timeoutMs := Config.timeoutReset
  desc := 0
  rawcfg := 0
  kcRange := 0
  seq := .idle
  lastCksum := 0
  curOp := 0
  curWrap := false
  bodyPend := false
  acc := 0
  kcBase := 0
  kcPos := 0
  kcRem := 0
  kcN := 0
  pb := Vector.replicate 64 0
  fb := Vector.replicate 64 0
  cb := Vector.replicate 126 CbEntry.atReset
  faultMarks := []
  rst := false
  inbox := []
  draws := 0
  sent := []
  reads := []

/-- Why a step stops with a fault. -/
inductive Fault where
  /-- The next move of the inbox is one its agent does not have: a response with no request presented, READ_TIMEOUT or
  READ_FAIL to an exchange without reply, a BUILD step outside BUILD (S5, R123, R161), a frame exchanged that FB does not
  present (R45). Raised by `nextMove` and `exchange`. Safe: the spec has no such step (log 2). -/
  | noMove
  deriving DecidableEq, Repr

/-- Why a step has no meaning. -/
inductive Refusal where
  /-- An arm of `exec` without a meaning. Raised by `exec` alone; no arm of this model does. Safe. -/
  | notModelled (mnemonic : String)
  /-- BUILD with BODY_PEND = 1 while CUR_OP is no command with one body frame: never reached (R35, S7). Raised by
  `buildStep`. Safe (log 11). -/
  | noBodyFrame
  deriving DecidableEq, Repr

/-- The outcome of a step. -/
abbrev Result := Host.Outcome State Fault Refusal

/-- Who moves next (R113): a request word written to CMD, the exchange of the frame in FB, or a move whose outcome is
already settled. -/
inductive Move where
  | request (v : Word) (s : State)
  | exchange (s : State)
  | settled (r : Result)

end Sys2Proof.Machine
end

