-- ==== Sys2Proof/Machine/Checksum.lean ====
section
/-! DEFINITION. The Checksum Unit (spec/41_checksum_unit.md R94 to R96). The sum and the seal are
irreducible, so that comparing two states never runs them; `accumulate.eq_1` and `sealFrame.eq_1` unfold them. -/

namespace Sys2Proof.Machine

/-- One addition of the accumulator: `ACC <- (ACC + zext_16(b)) mod 2^16` (R95). -/
def accStep (acc : Half) (b : Byte) : Half := acc + b.setWidth 16

/-- ACC after the additions of bytes 3 to 63 of a frame, in ascending offset, from 0 (R95). -/
@[irreducible] def accumulate (f : Frame) : Half := (f.toList.drop Config.checksumFirst).foldl accStep 0

/-- `Checksum(f)`: the low and the high byte of the sum (R94). -/
def checksum (f : Frame) : Byte × Byte := (loByte (accumulate f), hiByte (accumulate f))

/-- The frame that `Seal(f)` returns: the checksum in bytes 1 and 2, low byte first, every other byte kept (R96). -/
@[irreducible] def sealFrame (f : Frame) : Frame := (f.set 1 (checksum f).1).set 2 (checksum f).2

end Sys2Proof.Machine
end

