-- ==== Sys2Proof/Machine/Flags.lean ====
section
/-! DEFINITION. The flags: the STATUS word and its write-1-to-clear bits (spec/10_state.md R19 to R27), the `irq` output
(spec/60_exceptions.md R137), and the DETAIL of a transport error (R132). -/

namespace Sys2Proof.Machine

/-- The 3-bit value of a sequencer state (R33). -/
def SeqState.code : SeqState → BitVec 3
  | .idle => 0
  | .sendStart => 1
  | .build => 2
  | .sendBody => 3
  | .sendEnd => 4

/-- The 4-bit value of an error code (R131). -/
def ErrCode.code : ErrCode → BitVec 4
  | .none => 0
  | .payloadTooLarge => 1
  | .transport => 2
  | .illegalRequest => 3
  | .sequence => 4

/-- The STATUS word: SEQ_STATE 26:24, BODY_ACKED 23:16, DETAIL 11:8, ERR 7:4, OVR 3, DONE 2, TXN_OPEN 1, BUSY 0; bits
15:12 and 31:27 read 0 (R19 to R27). -/
def State.statusWord (s : State) : Word :=
  0#5 ++ s.seq.code ++ s.bodyAcked ++ 0#4 ++ s.detail ++ s.err.code ++ BitVec.ofBool s.ovr ++ BitVec.ofBool s.done ++
    BitVec.ofBool s.txnOpen ++ BitVec.ofBool s.busy

/-- The CTRL word: IRQ_EN in bit 0; bits 31:1 read 0 (R28). -/
def State.ctrlWord (s : State) : Word := 0#31 ++ BitVec.ofBool s.irqEn

/-- The LAST_CKSUM word: bits 31:16 read 0 (R34). -/
def State.lastCksumWord (s : State) : Word := 0#16 ++ s.lastCksum

/-- A requester write of v to STATUS: bit 2 clears DONE, bit 3 clears OVR, nothing else changes (R21, R22, R27). -/
def clearStatus (v : Word) (s : State) : State :=
  { s with done := s.done && !v.getLsbD 2, ovr := s.ovr && !v.getLsbD 3 }

/-- A requester write of v to CTRL: bit 0 is IRQ_EN (R28). -/
def writeCtrl (v : Word) (s : State) : State := { s with irqEn := v.getLsbD 0 }

/-- The `irq` output, a level: IRQ_EN AND DONE (R137). -/
def State.irq (s : State) : Bool := s.irqEn && s.done

/-- kind(r) of a failed exchange: WRITE_FAIL 0, READ_TIMEOUT 1, READ_FAIL 2 (R122). OK has no kind. -/
def Response.kind : Response → BitVec 4
  | .ok => 0
  | .writeFail => 0
  | .readTimeout => 1
  | .readFail => 2

/-- The phase of a failed exchange: START 0, BODY 1, END 2 (R122). IDLE and BUILD present no exchange. -/
def SeqState.phase : SeqState → BitVec 4
  | .idle => 0
  | .sendStart => 0
  | .build => 0
  | .sendBody => 1
  | .sendEnd => 2

/-- DETAIL of a transport error: phase * 4 + kind (R122, R132). -/
def transportDetail (q : SeqState) (r : Response) : BitVec 4 := q.phase * 4 + r.kind

end Sys2Proof.Machine
end

