-- ==== Sys2Proof/Machine/FrameBuilder.lean ====
section
/-! DEFINITION. The Frame Builder's pure frame functions (spec/40_frame_builder.md R77 to R81). They build unsealed frames
and write no register. -/

namespace Sys2Proof.Machine

/-- `Zero64`: the frame of 64 zero bytes (R12, R77). -/
def zero64 : Frame := Vector.replicate 64 0

/-- `f[off + j] <- p[j]` for each byte of p in turn (the loops of R78, R80, R105). -/
def copyBytes (f : Frame) (off : Nat) : List Byte → Frame
  | [] => f
  | b :: bs => copyBytes (f.setIfInBounds off b) (off + 1) bs

/-- The frame of `BuildControlFrame` once its check has passed: tag and command, then the payload over them (R78, R79). -/
def controlFrame (tag command : Byte) (p : List Byte) (off : Nat) : Frame :=
  copyBytes ((zero64.set 0 tag).set 3 command) off p

/-- The error PayloadTooLarge with its DETAIL: 0 for a payload, 1 for an argument (R78, R80, R132). -/
def payloadTooLarge (detail : BitVec 4) : CmdError := ⟨.payloadTooLarge, detail⟩

/-- `BuildControlFrame(tag, command, p, off)` (R78): it fails when the payload does not fit. -/
def buildControlFrame (tag command : Byte) (p : List Byte) (off : Nat) : Except CmdError Frame :=
  if off + p.length > Config.packetSize then .error (payloadTooLarge 0) else .ok (controlFrame tag command p off)

/-- `BuildSubcommandFrame(d, a)` (R80): it fails when the argument does not fit before offset 64. -/
def buildSubcommandFrame (d a : List Byte) : Except CmdError Frame :=
  if Config.subcmdArgOffset + a.length > Config.packetSize then .error (payloadTooLarge 1)
  else
    match buildControlFrame Config.ctrlTag Config.cmdSubcommand d Config.subcmdDescOffset with
    | .error e => .error e
    | .ok f => .ok (copyBytes f Config.subcmdArgOffset a)

/-- `CtrlFrame(c)`: tag 0, command c, every other byte 0 (R81); `BuildControlFrame` with no payload at offset 0 cannot
fail. -/
def ctrlFrame (c : Byte) : Frame := controlFrame Config.ctrlTag c [] 0

end Sys2Proof.Machine
end

