-- ==== Sys2Proof/Machine/Operands.lean ====
section
/-! DEFINITION. The operand forms: the fields of the request registers and the bytes a command reads from PB, DESC and CB
(spec/10_state.md R30 to R32, R39, R42 to R44; spec/20_memory.md R49). -/

namespace Sys2Proof.Machine

/-- RAWCFG.PLEN, bits 7:0 (R31). -/
def State.plen (s : State) : Byte := s.rawcfg.extractLsb' 0 8

/-- RAWCFG.POFF, bits 15:8 (R31). -/
def State.poff (s : State) : Byte := s.rawcfg.extractLsb' 8 8

/-- RAWCFG.RTAG, bits 23:16 (R31). -/
def State.rtag (s : State) : Byte := s.rawcfg.extractLsb' 16 8

/-- RAWCFG.RCMD, bits 31:24 (R31). -/
def State.rcmd (s : State) : Byte := s.rawcfg.extractLsb' 24 8

/-- KC_RANGE.KC_START, bits 15:0 (R32). -/
def State.kcStart (s : State) : Half := s.kcRange.extractLsb' 0 16

/-- KC_RANGE.KC_COUNT, bits 31:16 (R32). -/
def State.kcCount (s : State) : Half := s.kcRange.extractLsb' 16 16

/-- DESC[0] to DESC[3] (R30, R49). -/
def State.descBytes (s : State) : List Byte := wordBytes s.desc

/-- PB[0..n-1] (R39). -/
def State.pbBytes (s : State) (n : Nat) : List Byte := s.pb.toList.take n

/-- The 32-bit word at a byte offset of a buffer, packed little-endian (R39, R40, R49). -/
def bufferWord (f : Frame) (k : Fin 16) : Word :=
  wordOfBytes f[4 * k.val] f[4 * k.val + 1] f[4 * k.val + 2] f[4 * k.val + 3]

/-- The three channels of a 24-bit colour, red in the low byte (R44). -/
def colourOfBits (v : BitVec 24) : Colour := ⟨v.extractLsb' 0 8, v.extractLsb' 8 8, v.extractLsb' 16 8⟩

/-- The three channels of a colour-buffer word; bits 31:24 are ignored (R44). -/
def colourOfWord (v : Word) : Colour := ⟨v.extractLsb' 0 8, v.extractLsb' 8 8, v.extractLsb' 16 8⟩

/-- The word of a colour: bits 31:24 read 0 (R44). -/
def wordOfColour (c : Colour) : Word := wordOfBytes c.r c.g c.b 0

/-- Colour-buffer entry i has been written since reset (R43). An index past the buffer names no entry and counts as not
written (log 12). -/
def State.cbWritten (s : State) (i : Nat) : Bool :=
  match s.cb[i]? with
  | some e => e.written
  | none => false

/-- What a read of colour-buffer entry i gives: the colour the requester last wrote, or the n-th draw when nothing has
written the entry since reset (R43, log 4). -/
def State.cbColour (s : State) (i n : Nat) : Colour :=
  match s.cb[i]? with
  | some e => if e.written then e.colour else colourOfBits (Config.freeColour n)
  | none => colourOfBits (Config.freeColour n)

end Sys2Proof.Machine
end

