-- ==== Sys2Proof/Machine/Ops.lean ====
section
/-! DEFINITION. The shared operations: loading a sealed frame into FB (spec/41_checksum_unit.md R96, R97), taking an error
(spec/60_exceptions.md R134) and completing (spec/43_transaction_sequencer.md R121), accepting a request word (R114) with the
sequence check (R115) and the start of a body command (R116), and the reset line (spec/70_reset_and_hazards.md R147 to
R149). -/

namespace Sys2Proof.Machine

/-! ### Sealing a frame into FB -/

/-- `FB <- Seal(f)`: ACC runs over the frame, LAST_CKSUM takes the sum, FB takes the sealed frame (R95, R96, R97). -/
def loadFrame (f : Frame) (s : State) : State :=
  { s with acc := accumulate f, lastCksum := accumulate f, fb := sealFrame f }

/-- The START frame into FB, its exchange presented (R116, R126). -/
def presentStart (s : State) : State := { loadFrame (ctrlFrame Config.cmdStart) s with seq := .sendStart }

/-- The END frame into FB, its exchange presented (R116, R118, R127). -/
def presentEnd (s : State) : State := { loadFrame (ctrlFrame Config.cmdEnd) s with seq := .sendEnd }

/-- A body frame into FB, its exchange presented (R118). -/
def presentBody (f : Frame) (s : State) : State := { loadFrame f s with seq := .sendBody }

/-! ### The end of a command -/

/-- Taking an error: the one place where a command ends with an error. ERR and DETAIL are written, DONE is set, BUSY is
left 0 and SEQ_STATE IDLE (R134; R114 for a validation error, R122 for a transport error). -/
def takeError (e : CmdError) (s : State) : State :=
  { s with err := e.code, detail := e.detail, done := true, busy := false, seq := .idle }

/-- `Complete()`: BUSY 0, DONE 1, IDLE; ERR stays 0 (R121). -/
def complete (s : State) : State := { s with busy := false, done := true, seq := .idle }

/-- `Abort(r, phase)`: the transaction is dead, TRANSPORT with phase * 4 + kind (R122). -/
def abort (r : Response) (s : State) : State :=
  takeError ⟨.transport, transportDetail s.seq r⟩ { s with txnOpen := false }

/-! ### Acceptance of a request word -/

/-- What acceptance does before validation: the word is stored, DONE, ERR, DETAIL and BODY_ACKED are cleared (R114). -/
def storeWord (v : Word) (s : State) : State :=
  { s with cmd := v, done := false, err := .none, detail := 0, bodyAcked := 0 }

/-- What acceptance does after validation has passed: the latches take the word's fields, BUSY is set (R114). -/
def latchWord (v : Word) (s : State) : State :=
  { s with curOp := wordOp v, curWrap := wordWrap v, busy := true }

/-- A requester write of v to CMD (R18, R114). While `rst` is asserted it is ignored (R147); while BUSY = 1 it is ignored
and sets OVR (R22); else v is accepted: `check` is the validation of v's command (R115), `start` its start (R116). -/
def accept (v : Word) (check : State → Option CmdError) (start : State → State) (s : State) : State :=
  if s.rst then s
  else if s.busy then { s with ovr := true }
  else
    match check s with
    | some e => takeError e (storeWord v s)
    | none => start (latchWord v (storeWord v s))

/-- The error SEQUENCE with its DETAIL (R132). -/
def sequenceError (detail : BitVec 4) : CmdError := ⟨.sequence, detail⟩

/-- The sequence check of a body command: WRAP = 1 needs TXN_OPEN = 0, WRAP = 0 needs TXN_OPEN = 1 (R115). -/
def checkBody (wrap : Bool) (s : State) : Option CmdError :=
  if wrap && s.txnOpen then some (sequenceError 2)
  else if !wrap && !s.txnOpen then some (sequenceError 3)
  else none

/-- The first frame of a body command: START when WRAP = 1, else BUILD decides (R116). -/
def enterBody (wrap : Bool) (s : State) : State :=
  if wrap then presentStart s else { s with seq := .build }

/-- The start of a command with one body frame: BODY_PEND, then as `enterBody` (R116). -/
def startOneFrame (wrap : Bool) (s : State) : State := enterBody wrap { s with bodyPend := true }

/-- The acceptance of an illegal request word: ILLEGAL_REQUEST, DETAIL 0 (R59, R115). -/
def rejectWord (v : Word) (s : State) : State := accept v (fun _ => some ⟨.illegalRequest, 0⟩) id s

/-! ### Reset -/

/-- Every register, buffer, latch and mark at its reset value; the fault mark is kept (R148, R47), and so are the model's
own records and the agents' moves to come (log 6). -/
def resetRegisters (s : State) : State :=
  { State.reset with
    faultMarks := s.faultMarks, rst := s.rst, inbox := s.inbox, draws := s.draws, sent := s.sent, reads := s.reads }

/-- The platform drives `rst` (R147, R149). Asserting it withdraws any request and resets the registers; releasing it
leaves the state of R148; driving a released line low again changes nothing (log 6). DESIGN CHOICE: a withdrawn frame is
not recorded as handed over (R162, log 27). -/
def driveReset (level : Bool) (s : State) : State :=
  if level then { resetRegisters s with rst := true }
  else if s.rst then { resetRegisters s with rst := false }
  else s

end Sys2Proof.Machine
end

