-- ==== Sys2Proof/Machine/Chunker.lean ====
section
/-! DEFINITION. The Key-Color Chunker and the meaning of KEYCOLORS (spec/42_key_color_chunker.md R101 to R110). -/

namespace Sys2Proof.Machine

/-- `ClampedCount(start, count)`, exact (R101). -/
def clampedCount (start count : Nat) : Nat :=
  if start > Config.maxKey then 0
  else if start + count > Config.maxKey then Config.maxKey - start
  else count

/-- The clamped count of the request in KC_RANGE (R101, R104). -/
def State.clamped (s : State) : Nat := clampedCount s.kcStart.toNat s.kcCount.toNat

/-- Chunk initialisation (R104). -/
def chunkInit (s : State) : State :=
  { s with
    kcRem := BitVec.ofNat 8 s.clamped
    kcPos := 0
    kcBase := if s.clamped > 0 then s.kcStart.extractLsb' 0 8 else 0
    kcN := 0 }

/-- `KeyColorFrame(s, n, b)` with the n colours already read: byte count 3n, byte offset 3s low byte first, then the
triples red, green, blue from offset 8 (R105, R72). -/
def keyColorFrame (start n : Nat) (colours : List Colour) : Frame :=
  copyBytes
    (controlFrame Config.kcTag Config.cmdKeycolors
      [BitVec.ofNat 8 (3 * n), BitVec.ofNat 8 (3 * start % 256), BitVec.ofNat 8 (3 * start / 256)] 4)
    Config.kcDataOffset (colours.flatMap fun c => [c.r, c.g, c.b])

/-- The number of keys of the next chunk, `min(KC_REM, 18)` (R106). -/
def State.chunkKeys (s : State) : Nat := min s.kcRem.toNat Config.keysPerFrame

/-- The colours the next chunk reads: CB entries KC_POS to KC_POS + n - 1, each entry not written since reset a free
value of its own (R43, R106). -/
def State.chunkColours (s : State) : List Colour :=
  (List.range s.chunkKeys).map fun j => s.cbColour (s.kcPos.toNat + j) (s.draws + j)

/-- The faults the next chunk records: one for each entry it reads that nothing has written since reset (R43, R106). -/
def State.chunkFaults (s : State) : List FaultMark :=
  ((List.range s.chunkKeys).filter fun j => !s.cbWritten (s.kcPos.toNat + j)).map fun j =>
    .unwrittenColour (s.kcPos.toNat + j)

/-- The key-color frame of the next chunk, unsealed (R105, R106). -/
def State.chunkFrame (s : State) : Frame :=
  keyColorFrame (s.kcBase.toNat + s.kcPos.toNat) s.chunkKeys s.chunkColours

/-- Building a chunk: KC_N, the sealed frame in FB, the faults recorded, the exchange presented (R106, R118). -/
def buildChunk (s : State) : State :=
  presentBody s.chunkFrame
    { s with
      kcN := BitVec.ofNat 8 s.chunkKeys
      faultMarks := s.faultMarks ++ s.chunkFaults
      draws := s.draws + s.chunkKeys }

/-- Advancing after an acknowledged chunk (R107). -/
def advanceChunk (s : State) : State := { s with kcPos := s.kcPos + s.kcN, kcRem := s.kcRem - s.kcN }

/-- The start of KEYCOLORS: chunk initialisation, then as any body command (R104, R116). -/
def startKeycolors (wrap : Bool) (s : State) : State := enterBody wrap (chunkInit s)

/-- KEYCOLORS: upload the colours of a contiguous run of keys (R110). -/
def execKeycolors (wrap : Bool) (s : State) : Result :=
  .next (accept (requestWord Op.keycolors wrap) (checkBody wrap) (startKeycolors wrap) s)

end Sys2Proof.Machine
end

