-- ==== Sys2Proof/Machine/RawFrame.lean ====
section
/-! DEFINITION. The meaning of RAW_FRAME and its body frame (spec/40_frame_builder.md R92). -/

namespace Sys2Proof.Machine

/-- RAW_FRAME's validation: the sequence check, then `POFF + PLEN > 64` (R92, R115). -/
def checkRawFrame (wrap : Bool) (s : State) : Option CmdError :=
  match checkBody wrap s with
  | some e => some e
  | none => if s.poff.toNat + s.plen.toNat > Config.packetSize then some (payloadTooLarge 0) else none

/-- RAW_FRAME's body frame: tag RTAG, command RCMD, payload PB[0..PLEN-1] at offset POFF (R92). -/
def bodyRawFrame (s : State) : Except CmdError Frame :=
  buildControlFrame s.rtag s.rcmd (s.pbBytes s.plen.toNat) s.poff.toNat

/-- RAW_FRAME: send one frame built by the generic builder (R92). -/
def execRawFrame (wrap : Bool) (s : State) : Result :=
  .next (accept (requestWord Op.rawFrame wrap) (checkRawFrame wrap) (startOneFrame wrap) s)

end Sys2Proof.Machine
end

