-- ==== Sys2Proof/Machine/Subcommand.lean ====
section
/-! DEFINITION. The meanings of SUBCOMMAND and the seven SET_* requests, with the body frame each builds in BUILD
(spec/40_frame_builder.md R82, R84 to R91). No argument value is checked (R83). -/

namespace Sys2Proof.Machine

/-- SUBCOMMAND's validation: the sequence check, then `8 + PLEN > 64` (R84, R115). -/
def checkSubcommand (wrap : Bool) (s : State) : Option CmdError :=
  match checkBody wrap s with
  | some e => some e
  | none => if Config.subcmdArgOffset + s.plen.toNat > Config.packetSize then some (payloadTooLarge 1) else none

/-- SUBCOMMAND's body frame: descriptor DESC, argument PB[0..PLEN-1] (R84). -/
def bodySubcommand (s : State) : Except CmdError Frame :=
  buildSubcommandFrame s.descBytes (s.pbBytes s.plen.toNat)

/-- The body frame of a named setting: its descriptor and the first n bytes of PB (R82). -/
def bodyNamed (d : Descriptor) (n : Nat) (s : State) : Except CmdError Frame :=
  buildSubcommandFrame [d.d0, d.d1, d.d2, d.d3] (s.pbBytes n)

/-- SET_MODE's body frame (R85). -/
def bodySetMode (s : State) : Except CmdError Frame := bodyNamed descMode 1 s
/-- SET_BRIGHTNESS's body frame (R86). -/
def bodySetBrightness (s : State) : Except CmdError Frame := bodyNamed descBrightness 1 s
/-- SET_DELAY's body frame (R87). -/
def bodySetDelay (s : State) : Except CmdError Frame := bodyNamed descDelay 1 s
/-- SET_DIRECTION's body frame (R88). -/
def bodySetDirection (s : State) : Except CmdError Frame := bodyNamed descDirection 1 s
/-- SET_COLORFUL's body frame (R89). -/
def bodySetColorful (s : State) : Except CmdError Frame := bodyNamed descColorful 1 s
/-- SET_COLOR's body frame: three argument bytes R, G, B (R90). -/
def bodySetColor (s : State) : Except CmdError Frame := bodyNamed descColor 3 s
/-- SET_RATE's body frame (R91). -/
def bodySetRate (s : State) : Except CmdError Frame := bodyNamed descRate 1 s

/-- SUBCOMMAND: send one subcommand frame with any descriptor and argument (R84). -/
def execSubcommand (wrap : Bool) (s : State) : Result :=
  .next (accept (requestWord Op.subcommand wrap) (checkSubcommand wrap) (startOneFrame wrap) s)

/-- SET_MODE: set the lighting mode (R85). -/
def execSetMode (wrap : Bool) (s : State) : Result :=
  .next (accept (requestWord Op.setMode wrap) (checkBody wrap) (startOneFrame wrap) s)

/-- SET_BRIGHTNESS: set the brightness (R86). -/
def execSetBrightness (wrap : Bool) (s : State) : Result :=
  .next (accept (requestWord Op.setBrightness wrap) (checkBody wrap) (startOneFrame wrap) s)

/-- SET_DELAY: set the effect delay (R87). -/
def execSetDelay (wrap : Bool) (s : State) : Result :=
  .next (accept (requestWord Op.setDelay wrap) (checkBody wrap) (startOneFrame wrap) s)

/-- SET_DIRECTION: set the effect direction (R88). -/
def execSetDirection (wrap : Bool) (s : State) : Result :=
  .next (accept (requestWord Op.setDirection wrap) (checkBody wrap) (startOneFrame wrap) s)

/-- SET_COLORFUL: switch the colourful effect (R89). -/
def execSetColorful (wrap : Bool) (s : State) : Result :=
  .next (accept (requestWord Op.setColorful wrap) (checkBody wrap) (startOneFrame wrap) s)

/-- SET_COLOR: set the single effect colour (R90). -/
def execSetColor (wrap : Bool) (s : State) : Result :=
  .next (accept (requestWord Op.setColor wrap) (checkBody wrap) (startOneFrame wrap) s)

/-- SET_RATE: set the rate (R91). -/
def execSetRate (wrap : Bool) (s : State) : Result :=
  .next (accept (requestWord Op.setRate wrap) (checkBody wrap) (startOneFrame wrap) s)

end Sys2Proof.Machine
end

