-- ==== Sys2Proof/Machine/Transaction.lean ====
section
/-! DEFINITION. The meanings of the transaction requests TXN_BEGIN and TXN_END (spec/43_transaction_sequencer.md R126,
R127). -/

namespace Sys2Proof.Machine

/-- TXN_BEGIN while a transaction is open: SEQUENCE, DETAIL 0 (R115, R126). -/
def checkTxnBegin (s : State) : Option CmdError := if s.txnOpen then some (sequenceError 0) else none

/-- TXN_END while no transaction is open: SEQUENCE, DETAIL 1 (R115, R127). -/
def checkTxnEnd (s : State) : Option CmdError := if s.txnOpen then none else some (sequenceError 1)

/-- TXN_BEGIN: open a transaction by sending START (R126). -/
def execTxnBegin (s : State) : Result :=
  .next (accept (requestWord Op.txnBegin false) checkTxnBegin presentStart s)

/-- TXN_END: close the open transaction by sending END (R127). -/
def execTxnEnd (s : State) : Result :=
  .next (accept (requestWord Op.txnEnd false) checkTxnEnd presentEnd s)

end Sys2Proof.Machine
end

