-- ==== Sys2Proof/Machine/Sequencer.lean ====
section
/-! DEFINITION. The Transaction Sequencer's encoder step and its reactions to responses
(spec/43_transaction_sequencer.md R117 to R120, R122). -/

namespace Sys2Proof.Machine

/-- The body frame of the one-frame command CUR_OP, by its own rule (R84 to R92, R118); none when CUR_OP is no such
command. -/
def bodyFrame (s : State) : Option (Except CmdError Frame) :=
  if s.curOp = Op.subcommand then some (bodySubcommand s)
  else if s.curOp = Op.setMode then some (bodySetMode s)
  else if s.curOp = Op.setBrightness then some (bodySetBrightness s)
  else if s.curOp = Op.setDelay then some (bodySetDelay s)
  else if s.curOp = Op.setDirection then some (bodySetDirection s)
  else if s.curOp = Op.setColorful then some (bodySetColorful s)
  else if s.curOp = Op.setColor then some (bodySetColor s)
  else if s.curOp = Op.setRate then some (bodySetRate s)
  else if s.curOp = Op.rawFrame then some (bodyRawFrame s)
  else none

/-- Building the one body frame: FB, BODY_PEND, SEND_BODY (R118). A builder's `raise` ends the command with its error
(R12, R134); validation keeps that from happening (R78, log 10). -/
def buildBody (s : State) : Result :=
  match bodyFrame s with
  | none => .refused .noBodyFrame
  | some (.error e) => .next (takeError e s)
  | some (.ok f) => .next (presentBody f { s with bodyPend := false })

/-- The BUILD step (R118). -/
def buildStep (s : State) : Result :=
  if s.curOp = Op.keycolors ∧ s.kcRem ≠ 0 then .next (buildChunk s)
  else if s.curOp ≠ Op.keycolors ∧ s.bodyPend then buildBody s
  else if s.curWrap then .next (presentEnd s)
  else .next (complete s)

/-- An OK response to the START exchange (R117). -/
def startAcked (s : State) : State :=
  let t := { s with txnOpen := true }
  if s.curOp = Op.txnBegin then complete t else { t with seq := .build }

/-- An OK response to a body exchange (R119). -/
def bodyAckedStep (s : State) : State :=
  let t := { s with bodyAcked := s.bodyAcked + 1, seq := .build }
  if s.curOp = Op.keycolors then advanceChunk t else t

/-- An OK response to the END exchange (R120). -/
def endAcked (s : State) : State := complete { s with txnOpen := false }

/-- The block's reaction to the response of the presented exchange (R117, R119, R120, R122). In IDLE and BUILD no exchange
is presented, and `exchange` never asks. -/
def respond (r : Response) (s : State) : State :=
  if r = .ok then
    match s.seq with
    | .sendStart => startAcked s
    | .sendBody => bodyAckedStep s
    | .sendEnd => endAcked s
    | .idle => s
    | .build => s
  else abort r s

end Sys2Proof.Machine
end

