-- ==== Sys2Proof/Machine/Transport.lean ====
section
/-! DEFINITION. The transport port (spec/43_transaction_sequencer.md R123 to R125) and the meanings of the eleven frame
instructions: the frame in FB is handed over whole and the one response is taken. A frame's reply bytes are dropped
(R124). -/

namespace Sys2Proof.Machine

/-- The request on the transport port: present exactly in SEND_START, SEND_BODY and SEND_END (R45, R123), and none while
`rst` is asserted (R147, R149). -/
def State.portRequest (s : State) : Option PortRequest :=
  if s.rst then none
  else
    match s.seq with
    | .sendStart => some ⟨s.fb, false, s.timeoutMs⟩
    | .sendBody => some ⟨s.fb, true, s.timeoutMs⟩
    | .sendEnd => some ⟨s.fb, false, s.timeoutMs⟩
    | .idle => none
    | .build => none

/-- The responses the transport may give: READ_TIMEOUT and READ_FAIL never answer an exchange without reply (R123). -/
def permitted (expectReply : Bool) (r : Response) : Bool :=
  expectReply || r == .ok || r == .writeFail

/-- The response a draw picks among the permitted ones: any of the four with a reply, OK or WRITE_FAIL without (R123,
S4). -/
def answerOfDraw (expectReply : Bool) (v : BitVec 2) : Response :=
  if v = 0 then .ok
  else if v = 1 then .writeFail
  else if !expectReply then (if v = 2 then .ok else .writeFail)
  else if v = 2 then .readTimeout
  else .readFail

/-- The transport's answer: the response at the head of the inbox, taken from it, or a free permitted one (log 1), which
takes the transport's duty from the inbox if that is its head. -/
def takeAnswer (expectReply : Bool) (s : State) : Response × State :=
  match s.inbox with
  | .respond r :: rest => (r, { s with inbox := rest })
  | .duty :: rest =>
    (answerOfDraw expectReply (Config.freeAnswer s.draws), { s with inbox := rest, draws := s.draws + 1 })
  | _ => (answerOfDraw expectReply (Config.freeAnswer s.draws), { s with draws := s.draws + 1 })

/-- One exchange, an atomic step (R125): the presented frame f is handed over, the transport's one response is recorded
and the sequencer reacts to it (R117, R119, R120, R122). A frame that is not presented, or a response that is not
permitted, has no move (R45, R123; log 2). A frame enters the sequence of frames handed over with its response, here and
nowhere else; DESIGN CHOICE: one that `rst` withdraws before any response never enters it (R162, log 27). -/
def exchange (f : Frame) (s : State) : Result :=
  match s.portRequest with
  | none => .fault .noMove
  | some q =>
    if q.frame ≠ f then .fault .noMove
    else
      let a := takeAnswer q.expectReply s
      if permitted q.expectReply a.1 then
        .next (respond a.1 { a.2 with sent := s.sent ++ [⟨s.seq, q, a.1⟩] })
      else .fault .noMove

/-- FRAME_START: the exchange of the START frame (R65, R117). -/
def execFrameStart (s : State) : Result := exchange encStart s

/-- FRAME_END: the exchange of the END frame (R66, R120). -/
def execFrameEnd (s : State) : Result := exchange encEnd s

/-- FRAME_SUBCOMMAND: the exchange of a subcommand frame (R67, R119). -/
def execFrameSubcommand (ck : Half) (d : Descriptor) (arg : DataArea) (s : State) : Result :=
  exchange (encSubcommand ck d arg) s

/-- FRAME_SUBCOMMAND_MODE: the exchange of a MODE frame (R82, R85, R119). -/
def execFrameSubcommandMode (ck : Half) (arg : Byte) (s : State) : Result :=
  exchange (encSubcommand ck descMode (dataArea [arg])) s

/-- FRAME_SUBCOMMAND_BRIGHTNESS: the exchange of a BRIGHTNESS frame (R82, R86, R119). -/
def execFrameSubcommandBrightness (ck : Half) (arg : Byte) (s : State) : Result :=
  exchange (encSubcommand ck descBrightness (dataArea [arg])) s

/-- FRAME_SUBCOMMAND_DELAY: the exchange of a DELAY frame (R82, R87, R119). -/
def execFrameSubcommandDelay (ck : Half) (arg : Byte) (s : State) : Result :=
  exchange (encSubcommand ck descDelay (dataArea [arg])) s

/-- FRAME_SUBCOMMAND_DIRECTION: the exchange of a DIRECTION frame (R82, R88, R119). -/
def execFrameSubcommandDirection (ck : Half) (arg : Byte) (s : State) : Result :=
  exchange (encSubcommand ck descDirection (dataArea [arg])) s

/-- FRAME_SUBCOMMAND_COLORFUL: the exchange of a COLORFUL frame (R82, R89, R119). -/
def execFrameSubcommandColorful (ck : Half) (arg : Byte) (s : State) : Result :=
  exchange (encSubcommand ck descColorful (dataArea [arg])) s

/-- FRAME_SUBCOMMAND_COLOR: the exchange of a COLOR frame (R82, R90, R119). -/
def execFrameSubcommandColor (ck : Half) (r g b : Byte) (s : State) : Result :=
  exchange (encSubcommand ck descColor (dataArea [r, g, b])) s

/-- FRAME_SUBCOMMAND_RATE: the exchange of a RATE frame (R82, R91, R119). -/
def execFrameSubcommandRate (ck : Half) (arg : Byte) (s : State) : Result :=
  exchange (encSubcommand ck descRate (dataArea [arg])) s

/-- FRAME_KEYCOLORS: the exchange of a key-color frame (R68, R119). -/
def execFrameKeycolors (ck : Half) (count : Byte) (offset : Half) (data : DataArea) (s : State) : Result :=
  exchange (encKeycolors ck count offset data) s

end Sys2Proof.Machine
end

