-- ==== Sys2Proof/Machine/Dispatch.lean ====
section
/-! DEFINITION. Dispatch: one arm per constructor of Instr, each one direct call of its meaning. -/

namespace Sys2Proof.Machine

/-- The effect of an instruction on a state. -/
def exec (i : Instr) (s : State) : Host.Outcome State Fault Refusal :=
  match i with
  | .txnBegin => Sys2Proof.Machine.execTxnBegin s
  | .txnEnd => Sys2Proof.Machine.execTxnEnd s
  | .subcommand wrap => Sys2Proof.Machine.execSubcommand wrap s
  | .keycolors wrap => Sys2Proof.Machine.execKeycolors wrap s
  | .setMode wrap => Sys2Proof.Machine.execSetMode wrap s
  | .setBrightness wrap => Sys2Proof.Machine.execSetBrightness wrap s
  | .setDelay wrap => Sys2Proof.Machine.execSetDelay wrap s
  | .setDirection wrap => Sys2Proof.Machine.execSetDirection wrap s
  | .setColorful wrap => Sys2Proof.Machine.execSetColorful wrap s
  | .setColor wrap => Sys2Proof.Machine.execSetColor wrap s
  | .setRate wrap => Sys2Proof.Machine.execSetRate wrap s
  | .rawFrame wrap => Sys2Proof.Machine.execRawFrame wrap s
  | .frameStart => Sys2Proof.Machine.execFrameStart s
  | .frameEnd => Sys2Proof.Machine.execFrameEnd s
  | .frameSubcommand ck d arg => Sys2Proof.Machine.execFrameSubcommand ck d arg s
  | .frameSubcommandMode ck arg => Sys2Proof.Machine.execFrameSubcommandMode ck arg s
  | .frameSubcommandBrightness ck arg => Sys2Proof.Machine.execFrameSubcommandBrightness ck arg s
  | .frameSubcommandDelay ck arg => Sys2Proof.Machine.execFrameSubcommandDelay ck arg s
  | .frameSubcommandDirection ck arg => Sys2Proof.Machine.execFrameSubcommandDirection ck arg s
  | .frameSubcommandColorful ck arg => Sys2Proof.Machine.execFrameSubcommandColorful ck arg s
  | .frameSubcommandColor ck r g b => Sys2Proof.Machine.execFrameSubcommandColor ck r g b s
  | .frameSubcommandRate ck arg => Sys2Proof.Machine.execFrameSubcommandRate ck arg s
  | .frameKeycolors ck count offset data => Sys2Proof.Machine.execFrameKeycolors ck count offset data s

end Sys2Proof.Machine
end

