-- ==== Sys2Proof/Machine/Requester.lean ====
section
/-! DEFINITION. The requester register interface (spec/10_state.md R17 to R44; spec/20_memory.md R49 to R53). -/

namespace Sys2Proof.Machine

/-- The register word an access at a byte offset reaches: offset bits 9:2 decode, bits 1:0 are ignored (R17, R50, R52). -/
def regAt (a : Offset) : Reg :=
  let w := a.toNat / 4
  if w = 0 then .cmd
  else if w = 1 then .status
  else if w = 2 then .ctrl
  else if w = 3 then .timeoutMs
  else if w = 4 then .desc
  else if w = 5 then .rawcfg
  else if w = 6 then .kcRange
  else if w = 7 then .lastCksum
  else if h : 16 ≤ w ∧ w < 32 then .pb ⟨w - 16, by omega⟩
  else if h : 32 ≤ w ∧ w < 48 then .fb ⟨w - 32, by omega⟩
  else if h : 128 ≤ w ∧ w < 254 then .cb ⟨w - 128, by omega⟩
  else .unmapped

/-- The value a read of a register word returns while `rst` is released. An FB word while BUSY = 1 is any value (R41); a
CB entry not written since reset is any colour, with 0 in bits 31:24 (R43); unmapped reads 0 (R52). -/
def regValue (s : State) : Reg → Word
  | .cmd => s.cmd
  | .status => s.statusWord
  | .ctrl => s.ctrlWord
  | .timeoutMs => s.timeoutMs
  | .desc => s.desc
  | .rawcfg => s.rawcfg
  | .kcRange => s.kcRange
  | .lastCksum => s.lastCksumWord
  | .pb k => bufferWord s.pb k
  | .fb k => if s.busy then Config.freeWord s.draws else bufferWord s.fb k
  | .cb i => wordOfColour (s.cbColour i.val s.draws)
  | .unmapped => 0

/-- What a requester read at a byte offset returns; while `rst` is asserted it is any value (R147). -/
def readWord (a : Offset) (s : State) : Word :=
  if s.rst then Config.freeWord s.draws else regValue s (regAt a)

/-- A requester read: the value is handed over and no register changes (R53). -/
def requesterRead (a : Offset) (s : State) : State :=
  { s with reads := s.reads ++ [⟨a, readWord a s⟩], draws := s.draws + 1 }

/-- The moves to come of a requester that must read STATUS again: the next move of another agent first, the one listed
next or else the move owed, then `wait_idle` once more (R75, log 18). -/
def waitBehind : List Event → List Event
  | .respond r :: rest => .respond r :: .waitIdle :: rest
  | .build :: rest => .build :: .waitIdle :: rest
  | .rst level :: rest => .rst level :: .waitIdle :: rest
  | .duty :: rest => .duty :: .waitIdle :: rest
  | .read a :: rest => .duty :: .waitIdle :: .read a :: rest
  | .write a v :: rest => .duty :: .waitIdle :: .write a v :: rest
  | .waitIdle :: rest => .duty :: .waitIdle :: .waitIdle :: rest
  | [] => [.duty, .waitIdle]

/-- One turn of `wait_idle`: `rd STATUS`, repeated until bit 0 (BUSY) of the value read is 0 (R75). -/
def pollIdle (s : State) : State :=
  let t := requesterRead 0x004 s
  if (readWord 0x004 s).getLsbD 0 then { t with inbox := waitBehind s.inbox } else t

/-- A write to a request register: it lands unless a command runs, when it is ignored and sets OVR (R22). -/
def writeRequest (write : State → State) (s : State) : State :=
  if s.busy then { s with ovr := true } else write s

/-- A requester write to a register word other than CMD, while `rst` is released. Read-only and unmapped words ignore it
(R22, R40, R52); a CB word also sets its entry's mark (R43, R44, R53). A CMD write is an instruction of its own and does
not come here (R18). -/
def writeReg (v : Word) (s : State) : Reg → State
  | .cmd => s
  | .status => clearStatus v s
  | .ctrl => writeCtrl v s
  | .timeoutMs => writeRequest (fun t => { t with timeoutMs := v }) s
  | .desc => writeRequest (fun t => { t with desc := v }) s
  | .rawcfg => writeRequest (fun t => { t with rawcfg := v }) s
  | .kcRange => writeRequest (fun t => { t with kcRange := v }) s
  | .lastCksum => s
  | .pb k => writeRequest (fun t => { t with pb := copyBytes t.pb (4 * k.val) (wordBytes v) }) s
  | .fb _ => s
  | .cb i => writeRequest (fun t => { t with cb := t.cb.set i.val ⟨colourOfWord v, true⟩ }) s
  | .unmapped => s

/-- A requester write at a byte offset that is not CMD's; while `rst` is asserted it is ignored (R147). -/
def requesterWrite (a : Offset) (v : Word) (s : State) : State := if s.rst then s else writeReg v s (regAt a)

end Sys2Proof.Machine
end

