-- ==== Sys2Proof/Machine/Fetch.lean ====
section
/-! DEFINITION. Who moves next and what it moves: the step's fetch (spec/43_transaction_sequencer.md R113;
spec/60_exceptions.md R138; spec/70_reset_and_hazards.md R161). -/

namespace Sys2Proof.Machine

/-- The move of the agent that owes one (R161), in the state s whose inbox is that of t once the move is taken: while `rst`
is asserted and in IDLE the block does nothing (R146, R147), in BUILD the encoder builds, in a SEND state the transport
answers. -/
def dutyMove (t s : State) : Move :=
  if s.rst then .settled (.next t)
  else
    match s.seq with
    | .idle => .settled (.next t)
    | .build => .settled (buildStep t)
    | .sendStart => .exchange s
    | .sendBody => .exchange s
    | .sendEnd => .exchange s

/-- The next move: the first event of the inbox, or the move owed when the inbox is empty. A response with no request
presented, and a BUILD step outside BUILD, have no move (S5, log 2). -/
def nextMove (s : State) : Move :=
  match s.inbox with
  | [] => dutyMove s s
  | .duty :: rest => dutyMove { s with inbox := rest } s
  | .waitIdle :: rest => .settled (.next (pollIdle { s with inbox := rest }))
  | .read a :: rest => .settled (.next (requesterRead a { s with inbox := rest }))
  | .write a v :: rest =>
    if regAt a = .cmd then .request v { s with inbox := rest }
    else .settled (.next (requesterWrite a v { s with inbox := rest }))
  | .respond _ :: _ => if s.portRequest.isSome then .exchange s else .settled (.fault .noMove)
  | .build :: rest =>
    if s.seq = .build ∧ s.rst = false then .settled (buildStep { s with inbox := rest }) else .settled (.fault .noMove)
  | .rst level :: rest => .settled (.next (driveReset level { s with inbox := rest }))

/-- The SEND state whose exchange hands over the instruction's frame: START frames in SEND_START, END frames in SEND_END,
every other frame in SEND_BODY (R45). -/
def sendStateOf : Instr → SeqState
  | .frameStart => .sendStart
  | .frameEnd => .sendEnd
  | .txnBegin | .txnEnd | .subcommand _ | .keycolors _ | .setMode _ | .setBrightness _ | .setDelay _ | .setDirection _
  | .setColorful _ | .setColor _ | .setRate _ | .rawFrame _ | .frameSubcommand _ _ _ | .frameSubcommandMode _ _
  | .frameSubcommandBrightness _ _ | .frameSubcommandDelay _ _ | .frameSubcommandDirection _ _
  | .frameSubcommandColorful _ _ | .frameSubcommandColor _ _ _ _ | .frameSubcommandRate _ _
  | .frameKeycolors _ _ _ _ => .sendBody

/-- s with the frame f presented as instruction i and the transport's OK answer scheduled, so that the next step is f's
exchange (log 22). -/
def placeFrame (i : Instr) (f : Frame) (s : State) : State :=
  { s with rst := false, busy := true, seq := sendStateOf i, fb := f, inbox := .respond .ok :: s.inbox }

/-- s with the request word v as the requester's next CMD write (log 22). -/
def placeRequest (v : Word) (s : State) : State := { s with rst := false, inbox := .write 0 v :: s.inbox }

end Sys2Proof.Machine
end

