-- ==== Sys2Proof/Machine/Step.lean ====
section
/-! DEFINITION. One step of the machine, and placing an instruction where the next step fetches it. -/

namespace Sys2Proof.Machine

/-- A request word written to CMD: the instruction it decodes to, or the acceptance of an illegal word (R59, R114). -/
def runRequest (v : Word) (s : State) : Host.Outcome State Fault Refusal :=
  match decodeRequest v with
  | .ok i => exec i s
  | .error _ => .next (rejectWord v s)

/-- The exchange of the frame in FB: the instruction it decodes to, or the exchange of a frame no row describes (log 9). -/
def runFrame (s : State) : Host.Outcome State Fault Refusal :=
  match decodeFrame s.fb with
  | .ok i => exec i s
  | .error _ => exchange s.fb s

/-- One step: the next move of the agents (R113), each an atomic step (R160). -/
def step (s : State) : Host.Outcome State Fault Refusal :=
  match nextMove s with
  | .request v t => runRequest v t
  | .exchange t => runFrame t
  | .settled r => r

/-- s with the instruction whose low `nbits` bits are those of w, and whose other bits are zero, stored where `step`
fetches its next instruction: a request word as the requester's next CMD write, a frame in FB with its exchange presented
and answered OK (log 22). Bits that are no instruction are placed as a request word. -/
def State.withFetchWord (s : State) (nbits w : Nat) : State :=
  match decodeTableWord nbits w with
  | some i =>
    match i.asRequest, i.asFrame with
    | some v, _ => placeRequest v s
    | none, some f => placeFrame i f s
    | none, none => placeRequest (BitVec.ofNat 32 (w % 2 ^ nbits)) s
  | none => placeRequest (BitVec.ofNat 32 (w % 2 ^ nbits)) s

end Sys2Proof.Machine
end

