-- ==== Sys2Proof/Machine/Assembly.lean ====
section
/-! DEFINITION. The request assembly language (spec/30_encoding.md R74 to R76): statements, pseudo-instructions, and the
requester accesses they expand to. A program's encoding is its list of accesses, as events of the inbox. -/

namespace Sys2Proof.Machine

/-- A register operand of a statement (R74): a name of the map R17, a word of PB, an entry of CB, or an offset. -/
inductive RegName where
  | cmd
  | status
  | ctrl
  | timeoutMs
  | desc
  | rawcfg
  | kcRange
  | lastCksum
  | pb (k : Fin 16)
  | cb (i : Fin 126)
  | hex (a : Offset)
  deriving DecidableEq, Repr

/-- The mnemonics of the OP map, as `cmd` takes them (R57, R74). -/
inductive Mnemonic where
  | txnBegin
  | txnEnd
  | subcommand
  | keycolors
  | setMode
  | setBrightness
  | setDelay
  | setDirection
  | setColorful
  | setColor
  | setRate
  | rawFrame
  deriving DecidableEq, Repr

/-- A statement (R74). -/
inductive Stmt where
  /-- `wr <reg>, <value>` -/
  | wr (reg : RegName) (value : Word)
  /-- `rd <reg>` -/
  | rd (reg : RegName)
  /-- `cmd <mnemonic>` or `cmd <mnemonic>.wrap` -/
  | cmd (m : Mnemonic) (wrap : Bool)
  /-- `rd STATUS`, repeated until bit 0 (BUSY) is 0: what `wait_idle` expands to (R75). -/
  | repeatRdStatus
  deriving DecidableEq, Repr

/-- The settings with a one-word pseudo-instruction (R75). -/
inductive Setting where
  | mode
  | brightness
  | delay
  | direction
  | colorful
  | rate
  deriving DecidableEq, Repr

/-- A line of a program: a statement or a pseudo-instruction (R75). -/
inductive Pseudo where
  | stmt (s : Stmt)
  /-- `wait_idle` -/
  | waitIdle
  /-- `color <i>, <r>, <g>, <b>` -/
  | color (i : Fin 126) (r g b : Byte)
  /-- `set_mode[.wrap] <n>` and likewise the other one-word settings -/
  | set (which : Setting) (wrap : Bool) (n : Word)
  /-- `set_color[.wrap] <r>, <g>, <b>` -/
  | setColor (wrap : Bool) (r g b : Byte)
  /-- `subcmd[.wrap] <d0>,<d1>,<d2>,<d3> [: <a0>, ..., <aL-1>]` -/
  | subcmd (wrap : Bool) (d : Descriptor) (args : List Byte)
  /-- `keycolors[.wrap] <start>, <count>` -/
  | keycolors (wrap : Bool) (start count : Half)
  /-- `raw_frame[.wrap] <tag>, <cmd>, <off> [: <p0>, ..., <pL-1>]` -/
  | rawFrame (wrap : Bool) (tag cmd off : Byte) (payload : List Byte)
  | txnBegin
  | txnEnd
  deriving DecidableEq, Repr

/-- The byte offset of a register operand (R17, R74). -/
def RegName.offset : RegName → Offset
  | .cmd => 0x000
  | .status => 0x004
  | .ctrl => 0x008
  | .timeoutMs => 0x00C
  | .desc => 0x010
  | .rawcfg => 0x014
  | .kcRange => 0x018
  | .lastCksum => 0x01C
  | .pb k => BitVec.ofNat 10 (0x040 + 4 * k.val)
  | .cb i => BitVec.ofNat 10 (0x200 + 4 * i.val)
  | .hex a => a

/-- The OP of a mnemonic (R57). -/
def Mnemonic.op : Mnemonic → Byte
  | .txnBegin => Op.txnBegin
  | .txnEnd => Op.txnEnd
  | .subcommand => Op.subcommand
  | .keycolors => Op.keycolors
  | .setMode => Op.setMode
  | .setBrightness => Op.setBrightness
  | .setDelay => Op.setDelay
  | .setDirection => Op.setDirection
  | .setColorful => Op.setColorful
  | .setColor => Op.setColor
  | .setRate => Op.setRate
  | .rawFrame => Op.rawFrame

/-- The access of a statement (R74), or the repeated access of `wait_idle` (R75). -/
def Stmt.access : Stmt → Event
  | .wr reg v => .write reg.offset v
  | .rd reg => .read reg.offset
  | .cmd m wrap => .write RegName.cmd.offset (requestWord m.op wrap)
  | .repeatRdStatus => .waitIdle

/-- The command of a one-word setting (R75). -/
def Setting.mnemonic : Setting → Mnemonic
  | .mode => .setMode
  | .brightness => .setBrightness
  | .delay => .setDelay
  | .direction => .setDirection
  | .colorful => .setColorful
  | .rate => .setRate

/-- Bytes packed little-endian into words, the last one filled with zeros (R49, R75; log 18). -/
def packWords : List Byte → List Word
  | b0 :: b1 :: b2 :: b3 :: rest => wordOfBytes b0 b1 b2 b3 :: packWords rest
  | [b0, b1, b2] => [wordOfBytes b0 b1 b2 0]
  | [b0, b1] => [wordOfBytes b0 b1 0 0]
  | [b0] => [wordOfBytes b0 0 0 0]
  | [] => []

/-- The PB words that hold the given bytes, PB0 first; PB has sixteen words (R75, log 18). -/
def pbWrites (bs : List Byte) : List Stmt :=
  ((packWords bs).take 16).mapIdx fun k w => .wr (.hex (BitVec.ofNat 10 (0x040 + 4 * k))) w

/-- The statements a line expands to (R75). -/
def Pseudo.expand : Pseudo → List Stmt
  | .stmt s => [s]
  | .waitIdle => [.repeatRdStatus]
  | .color i r g b => [.wr (.cb i) (wordOfBytes r g b 0)]
  | .set which wrap n => [.wr (.pb 0) n, .cmd which.mnemonic wrap]
  | .setColor wrap r g b => [.wr (.pb 0) (wordOfBytes r g b 0), .cmd .setColor wrap]
  | .subcmd wrap d args =>
    .wr .desc (wordOfBytes d.d0 d.d1 d.d2 d.d3) :: pbWrites args ++
      [.wr .rawcfg (BitVec.ofNat 32 args.length), .cmd .subcommand wrap]
  | .keycolors wrap start count => [.wr .kcRange (count ++ start), .cmd .keycolors wrap]
  | .rawFrame wrap tag cmd off payload =>
    pbWrites payload ++
      [.wr .rawcfg (wordOfBytes (BitVec.ofNat 8 payload.length) off tag cmd), .cmd .rawFrame wrap]
  | .txnBegin => [.cmd .txnBegin false]
  | .txnEnd => [.cmd .txnEnd false]

/-- A program's encoding: its accesses in order (R76). -/
def assemble (p : List Pseudo) : List Event := (p.flatMap Pseudo.expand).map Stmt.access

end Sys2Proof.Machine
end

