-- ==== Sys2Proof/Safety.lean ====
section
/-! DEFINITION. The terms the statements use: sealed frames, the invariant of the block, the transaction shape, the
pseudocode of acceptance as spec/43_transaction_sequencer.md writes it over the request word, the chunk plan, and what
"unchanged" means for groups of registers. -/

namespace Sys2Proof.Machine

/-! ### Frames -/

/-- The sum of bytes 3 to 63, exact (R94). -/
def byteSum (f : Frame) : Nat := ((f.toList.drop 3).map BitVec.toNat).sum

/-- Bytes 1 and 2 hold the sum of bytes 3 to 63 modulo 2^16, low byte first (R62). -/
def Sealed (f : Frame) : Prop := f[1].toNat + 256 * f[2].toNat = byteSum f % 65536

/-! ### Operations named by the OP map -/

/-- The body commands (R115). -/
def isBodyOp (op : Byte) : Bool :=
  op == Op.subcommand || op == Op.keycolors || op == Op.setMode || op == Op.setBrightness || op == Op.setDelay ||
    op == Op.setDirection || op == Op.setColorful || op == Op.setColor || op == Op.setRate || op == Op.rawFrame

/-- The ERR and DETAIL pairs that can be written (R132). -/
def legalErrors : List (ErrCode × BitVec 4) :=
  [(.none, 0), (.payloadTooLarge, 0), (.payloadTooLarge, 1), (.transport, 0), (.transport, 4), (.transport, 5),
   (.transport, 6), (.transport, 8), (.illegalRequest, 0), (.sequence, 0), (.sequence, 1), (.sequence, 2), (.sequence, 3)]

/-! ### The invariant -/

/-- What holds of the block in every state a run reaches. -/
structure State.Inv (s : State) : Prop where
  /-- BUSY is 1 exactly while a command runs (R19, R33). -/
  busy_iff : s.busy = true ↔ s.seq ≠ .idle
  /-- While `rst` is asserted every register is at its reset value (R147, R148). -/
  rst_reset : s.rst = true → s = resetRegisters s
  /-- FB holds a sealed frame (R40, R97); the all-zero frame of reset is one. -/
  fb_sealed : Sealed s.fb
  /-- ACC is the sum of the last frame sealed (R36, R95). -/
  acc_eq : s.acc = accumulate s.fb
  /-- LAST_CKSUM is the checksum of the last frame sealed (R34, R96). -/
  cksum_eq : s.lastCksum = accumulate s.fb
  /-- No START is presented while a transaction is open (R129). -/
  start_closed : s.seq = .sendStart → s.txnOpen = false
  /-- A body or END frame is built and presented only while a transaction is open (R129). -/
  body_open : s.seq = .build ∨ s.seq = .sendBody ∨ s.seq = .sendEnd → s.txnOpen = true
  /-- While a command runs no error is recorded and DONE is 0 (R21, R23, R24). -/
  running_clear : s.busy = true → s.err = .none ∧ s.detail = 0 ∧ s.done = false
  /-- ERR and DETAIL hold a pair that R132 lists. -/
  err_legal : (s.err, s.detail) ∈ legalErrors
  /-- In SEND_START the command is TXN_BEGIN or a body command with WRAP = 1 (R116). -/
  start_op : s.seq = .sendStart → s.curOp = Op.txnBegin ∨ (isBodyOp s.curOp = true ∧ s.curWrap = true)
  /-- In BUILD and SEND_BODY the command is a body command (R113). -/
  body_op : s.seq = .build ∨ s.seq = .sendBody → isBodyOp s.curOp = true
  /-- In SEND_END the command is TXN_END or a body command with WRAP = 1 (R116, R118). -/
  end_op : s.seq = .sendEnd → s.curOp = Op.txnEnd ∨ (isBodyOp s.curOp = true ∧ s.curWrap = true)
  /-- The argument of a running SUBCOMMAND fits (R80, R115). -/
  arg_fits : s.busy = true → s.curOp = Op.subcommand → 8 + s.plen.toNat ≤ 64
  /-- The payload of a running RAW_FRAME fits (R78, R115). -/
  payload_fits : s.busy = true → s.curOp = Op.rawFrame → s.poff.toNat + s.plen.toNat ≤ 64
  /-- The keys acknowledged and to come are at most 126 (R37, R101). -/
  chunk_total : s.kcPos.toNat + s.kcRem.toNat ≤ 126
  /-- While a KEYCOLORS command runs they are the clamped count, from key KC_START (R104, R107). -/
  chunk_clamped : s.busy = true → s.curOp = Op.keycolors →
    s.kcPos.toNat + s.kcRem.toNat = s.clamped ∧ (s.clamped > 0 → s.kcBase.toNat = s.kcStart.toNat)
  /-- KC_N is the number of keys of the presented key-color frame (R37, R106). -/
  chunk_keys : s.seq = .sendBody → s.curOp = Op.keycolors → s.kcRem ≠ 0 ∧ s.kcN.toNat = s.chunkKeys
  /-- Before the last chunk every acknowledged frame held 18 keys (R108). -/
  chunk_acked : s.busy = true → s.curOp = Op.keycolors → s.kcRem ≠ 0 → s.kcPos.toNat = 18 * s.bodyAcked.toNat
  /-- A one-frame command has acknowledged no frame before its frame is answered (R35, R118, R119). -/
  one_frame : s.busy = true → s.curOp ≠ Op.keycolors →
    (s.seq = .sendStart ∨ s.seq = .sendBody ∨ (s.seq = .build ∧ s.bodyPend = true)) → s.bodyAcked = 0
  /-- In SEND_BODY the one body frame has been built (R118). -/
  body_built : s.seq = .sendBody → s.curOp ≠ Op.keycolors → s.bodyPend = false
  /-- In SEND_START of a body command its frame is still to be built, and nothing is acknowledged (R116). -/
  start_fresh : s.seq = .sendStart → s.bodyAcked = 0
  /-- BODY_ACKED never exceeds 7 (R25). -/
  acked_le : s.bodyAcked.toNat ≤ 7
  /-- The frame presented in SEND_START is START (R33, R65, R116). -/
  start_frame : s.seq = .sendStart → s.fb = encStart
  /-- The frame presented in SEND_END is END (R33, R66, R116, R118). -/
  end_frame : s.seq = .sendEnd → s.fb = encEnd

/-! ### The transaction shape (R129) -/

/-- One exchange after a run whose transaction is open or not: START opens when it is answered OK, a body frame and END
need an open transaction, END and every failure close it. None is a frame out of order. A START may follow an open
transaction only because a reset cut that one short (R129, R149). -/
def shapeStep (isOpen : Bool) (e : Exchange) : Option Bool :=
  match e.phase with
  | .sendStart => some (e.response == .ok)
  | .sendBody => if isOpen then some (e.response == .ok) else none
  | .sendEnd => if isOpen then some false else none
  | .idle => none
  | .build => none

/-- Whether the exchanges so far form transactions, and whether the last is still open. -/
def shape : List Exchange → Option Bool
  | es => es.foldl (fun o e => o.bind fun b => shapeStep b e) (some false)

/-- The exchanges of the run form transactions, and TXN_OPEN = 1 only while the last of them is open (R129). -/
def State.Shaped (s : State) : Prop := ∃ o, shape s.sent = some o ∧ (s.txnOpen = true → o = true)

/-! ### Acceptance as the spec writes it, over the request word -/

/-- The OP map (R57). -/
def inOpMap (op : Byte) : Bool := op == Op.txnBegin || op == Op.txnEnd || isBodyOp op

/-- `Validate(v)`, line by line (R115). -/
def specValidate (v : Word) (s : State) : Option CmdError :=
  let op := v.extractLsb' 0 8
  let w := v.getLsbD 8
  if inOpMap op = false ∨ v.extractLsb' 9 23 ≠ 0 ∨ ((op = 0x01#8 ∨ op = 0x02#8) ∧ w = true) then some ⟨.illegalRequest, 0⟩
  else if op = 0x01#8 ∧ s.txnOpen = true then some ⟨.sequence, 0⟩
  else if op = 0x02#8 ∧ s.txnOpen = false then some ⟨.sequence, 1⟩
  else if isBodyOp op = true ∧ w = true ∧ s.txnOpen = true then some ⟨.sequence, 2⟩
  else if isBodyOp op = true ∧ w = false ∧ s.txnOpen = false then some ⟨.sequence, 3⟩
  else if op = 0x06#8 ∧ 8 + s.plen.toNat > 64 then some ⟨.payloadTooLarge, 1⟩
  else if op = 0x30#8 ∧ s.poff.toNat + s.plen.toNat > 64 then some ⟨.payloadTooLarge, 0⟩
  else none

/-- `Start(v)`, line by line (R116). -/
def specStart (v : Word) (s : State) : State :=
  let op := v.extractLsb' 0 8
  let w := v.getLsbD 8
  if op = 0x01#8 then { loadFrame (ctrlFrame 0x01) s with seq := .sendStart }
  else if op = 0x02#8 then { loadFrame (ctrlFrame 0x02) s with seq := .sendEnd }
  else
    let t := if op = 0x11#8 then chunkInit s else { s with bodyPend := true }
    if w then { loadFrame (ctrlFrame 0x01) t with seq := .sendStart } else { t with seq := .build }

/-- `Accept(v)`, line by line (R114). -/
def specAccept (v : Word) (s : State) : State :=
  let t := { s with cmd := v, done := false, err := .none, detail := 0, bodyAcked := 0 }
  match specValidate v t with
  | some e => { t with err := e.code, detail := e.detail, done := true }
  | none => specStart v { t with curOp := v.extractLsb' 0 8, curWrap := v.getLsbD 8, busy := true }

/-! ### The states a request word leads to, field by field -/

/-- The frame that begins with the given bytes and is zero after them. -/
def frameOfBytes (bs : List Byte) : Frame := Vector.ofFn fun i => bs.getD i.val 0

/-- The request word of a command: OP in bits 7:0, WRAP in bit 8 (R56). -/
def wordOfCommand (op : Byte) (wrap : Bool) : Word := BitVec.ofNat 32 (op.toNat + if wrap then 256 else 0)

/-- s after a request word v ended with the error e at acceptance: CMD, DONE, ERR, DETAIL, BODY_ACKED; BUSY = 0 and IDLE
(R114, R134). -/
def erroredAt (v : Word) (e : CmdError) (s : State) : State :=
  { s with cmd := v, done := true, err := e.code, detail := e.detail, bodyAcked := 0, busy := false, seq := .idle }

/-- s after acceptance of the command op with WRAP = wrap, before its start (R114). -/
def acceptedAt (op : Byte) (wrap : Bool) (s : State) : State :=
  { s with
    cmd := wordOfCommand op wrap, done := false, err := .none, detail := 0, bodyAcked := 0
    curOp := op, curWrap := wrap, busy := true }

/-- s presenting the START frame 00 01 00 01 with checksum 1 (R65, R116). -/
def presentingStart (s : State) : State :=
  { s with fb := frameOfBytes [0x00, 0x01, 0x00, 0x01], lastCksum := 1, acc := 1, seq := .sendStart }

/-- s presenting the END frame 00 02 00 02 with checksum 2 (R66, R116). -/
def presentingEnd (s : State) : State :=
  { s with fb := frameOfBytes [0x00, 0x02, 0x00, 0x02], lastCksum := 2, acc := 2, seq := .sendEnd }

/-- s after the start of a body command: START presented with WRAP = 1, BUILD without (R116). -/
def enteredBody (wrap : Bool) (s : State) : State := if wrap then presentingStart s else { s with seq := .build }

/-- s presenting the body frame f, sealed (R118). -/
def presentingBody (f : Frame) (s : State) : State :=
  { s with fb := sealFrame f, lastCksum := accumulate f, acc := accumulate f, seq := .sendBody }

/-- s after the presented exchange was answered r and nothing else: the answer taken from the inbox, the exchange
recorded (R123, log 16). -/
def answeredBy (r : Response) (rest : List Event) (s : State) : State :=
  { s with
    inbox := rest
    sent := s.sent ++ [⟨s.seq, ⟨s.fb, s.seq == .sendBody, s.timeoutMs⟩, r⟩] }

/-- Frame instructions: the eleven FRAME64 rows of the opcode table. -/
def isFrame (i : Instr) : Bool := i.asFrame.isSome

/-! ### A KEYCOLORS run -/

/-- n times: the encoder builds, the transport answers OK. -/
def chunkScript : Nat → List Event
  | 0 => []
  | n + 1 => .build :: .respond .ok :: chunkScript n

/-- The n colours from colour-buffer entry b on, as the requester wrote them. -/
def writtenColours (s : State) (b n : Nat) : List Colour := (List.range n).map fun j => s.cbColour (b + j) 0

/-! ### The chunk plan (R108) -/

/-- The (first key, key count) pairs of the frames of k keys from key `start`, at most `fuel` frames (R106 to R108). -/
def chunkPlan : Nat → Nat → Nat → List (Nat × Nat)
  | 0, _, _ => []
  | fuel + 1, start, k => if k = 0 then [] else (start, min k 18) :: chunkPlan fuel (start + min k 18) (k - min k 18)

/-- The exchanges of a plan whose frames are all answered OK: frame (first key, count) carries the colours from position
first key minus `start` (R106, R111). -/
def planExchanges (s : State) (start : Nat) (p : List (Nat × Nat)) : List Exchange :=
  p.map fun q =>
    ⟨.sendBody, ⟨sealFrame (keyColorFrame q.1 q.2 (writtenColours s (q.1 - start) q.2)), true, s.timeoutMs⟩, .ok⟩

/-- The keys a plan covers, in emission order (R111). -/
def planKeys (p : List (Nat × Nat)) : List Nat := p.flatMap fun q => List.range' q.1 q.2

/-! ### What stays unchanged -/

/-- The request registers, written by the requester alone (R15 item 1): CMD, TIMEOUT_MS, DESC, RAWCFG, KC_RANGE, PB, CB. -/
def SameRequest (s t : State) : Prop :=
  t.cmd = s.cmd ∧ t.timeoutMs = s.timeoutMs ∧ t.desc = s.desc ∧ t.rawcfg = s.rawcfg ∧ t.kcRange = s.kcRange ∧
    t.pb = s.pb ∧ t.cb = s.cb

/-- The request registers without CMD. -/
def SameOperands (s t : State) : Prop :=
  t.timeoutMs = s.timeoutMs ∧ t.desc = s.desc ∧ t.rawcfg = s.rawcfg ∧ t.kcRange = s.kcRange ∧ t.pb = s.pb ∧ t.cb = s.cb

/-- The chunker registers (R37). -/
def SameChunker (s t : State) : Prop :=
  t.kcBase = s.kcBase ∧ t.kcPos = s.kcPos ∧ t.kcRem = s.kcRem ∧ t.kcN = s.kcN

/-- The frame side of the block: FB, LAST_CKSUM, ACC (R34, R36, R40). -/
def SameFrame (s t : State) : Prop := t.fb = s.fb ∧ t.lastCksum = s.lastCksum ∧ t.acc = s.acc

/-- The command latches (R35). -/
def SameLatches (s t : State) : Prop := t.curOp = s.curOp ∧ t.curWrap = s.curWrap ∧ t.bodyPend = s.bodyPend

/-- The flags and fields of STATUS (R19 to R26). -/
def SameStatus (s t : State) : Prop :=
  t.busy = s.busy ∧ t.txnOpen = s.txnOpen ∧ t.done = s.done ∧ t.ovr = s.ovr ∧ t.err = s.err ∧ t.detail = s.detail ∧
    t.bodyAcked = s.bodyAcked ∧ t.seq = s.seq

/-- Every register, buffer, latch, mark and the reset line: all of the state but the model's own records and the agents'
moves to come. -/
def SameRegisters (s t : State) : Prop :=
  SameRequest s t ∧ SameChunker s t ∧ SameFrame s t ∧ SameLatches s t ∧ SameStatus s t ∧ t.irqEn = s.irqEn ∧
    t.faultMarks = s.faultMarks ∧ t.rst = s.rst

end Sys2Proof.Machine
end

