-- ==== Sys2Proof/Certificates/Slice0/Obligations.lean ====
section
/-! DEFINITION. The statements for the provers. Each says what the spec's rules say of the block; `log n` names a choice of
the model that a statement rests on. -/

open Sys2Proof Sys2Proof.Machine

/-! ### Encoding -/

/-- Decoding what the encoder writes gives the instruction back exactly when the instruction is canonical: every request
word, and every frame written as its own row (R56 to R58, R60 to R68, R73; which row names a frame is the model's choice,
log 8). Every well-formed instruction is canonical. -/
def Obligations.DecodeEncodeIsIdentity : Prop :=
  (∀ i : Instr, decode (encode i) = .ok i ↔ i.canonical = true) ∧
    ∀ i : Instr, i.wf = true → decode (encode i) = .ok i

/-- Encoding what the decoder reads gives the bytes back: no bit of an encoding is dropped. -/
def Obligations.EncodeDecodeIsIdentity : Prop :=
  ∀ (bs : List Byte) (i : Instr), decode bs = .ok i → encode i = bs

/-- Words written out from R57, R65 and the worked examples of spec/95_test_vectors.md E1, E2, E3 and E10 decode to the
instructions they stand for. That the frames of E1 and E2, which the SUBCOMMAND row matches too, decode to the named rows
MODE and COLOR is the model's choice, log 8. -/
def Obligations.SampleWordsDecode : Prop :=
  decodeRequest 0x00000001 = .ok .txnBegin ∧ decodeRequest 0x00000111 = .ok (.keycolors true) ∧
    decodeRequest 0x00000020 = .ok (.setMode false) ∧ decodeRequest 0x00000130 = .ok (.rawFrame true) ∧
    decodeRequest 0x00000101 = .error .wrapNotAllowed ∧ decodeRequest 0x00000220 = .error .reservedBits ∧
    decodeRequest 0x00000003 = .error .unknownOp ∧
    decodeFrame (frameOfBytes [0x00, 0x01, 0x00, 0x01]) = .ok .frameStart ∧
    decodeFrame (frameOfBytes [0x00, 0x0A, 0x00, 0x06, 0x01, 0x00, 0x00, 0x00, 0x03]) =
      .ok (.frameSubcommandMode 10 3) ∧
    decodeFrame (frameOfBytes [0x00, 0x8D, 0x01, 0x06, 0x03, 0x05, 0x00, 0x00, 0xFF, 0x00, 0x80]) =
      .ok (.frameSubcommandColor 397 255 0 128) ∧
    decodeFrame (frameOfBytes ([0x04, 0x7A, 0x12, 0x11, 0x12, 0x68, 0x01, 0x00] ++ List.replicate 18 0xFF)) =
      .ok (.frameKeycolors 0x127A 18 360 (dataArea (List.replicate 18 0xFF)))

/-! ### A step runs the decoded instruction -/

/-- When the requester's next access is a write of v to CMD, the step is the instruction v decodes to, run on the state
with that access taken from the inbox; an illegal word is accepted with ILLEGAL_REQUEST instead (R18, R59, R114). -/
def Obligations.StepRunsTheRequestWord : Prop :=
  ∀ (s : State) (a : Offset) (v : Word) (rest : List Event),
    s.inbox = .write a v :: rest → a.toNat / 4 = 0 →
      (∀ i, decodeRequest v = .ok i → step s = exec i { s with inbox := rest }) ∧
        (∀ e, decodeRequest v = .error e → step s = .next (rejectWord v { s with inbox := rest }))

/-- When an exchange is presented and the transport moves, scheduled or as its duty (a listed duty, or no move listed:
log 1), the step is the instruction the frame in FB decodes to, run on the whole state; a frame no row describes is
exchanged by the same operation (R45, R123, R161; log 7, log 9). -/
def Obligations.StepRunsThePresentedFrame : Prop :=
  ∀ s : State, s.portRequest.isSome = true →
    (s.inbox = [] ∨ (∃ rest, s.inbox = .duty :: rest) ∨ ∃ r rest, s.inbox = .respond r :: rest) →
    (∀ i, decodeFrame s.fb = .ok i → step s = exec i s) ∧
      (∀ e, decodeFrame s.fb = .error e → step s = exchange s.fb s)

/-- A BUILD move, scheduled or as the encoder's duty, is the BUILD step (R118, R161); in IDLE, with no move listed or only
a duty, the block stays as it is (R146, R148). That a duty is listed or an empty inbox is log 1. -/
def Obligations.StepTakesTheBuildMove : Prop :=
  ∀ s : State, s.rst = false →
    (s.seq = .build →
        (∀ rest, s.inbox = .build :: rest → step s = buildStep { s with inbox := rest }) ∧
          (∀ rest, s.inbox = .duty :: rest → step s = buildStep { s with inbox := rest }) ∧
          (s.inbox = [] → step s = buildStep s)) ∧
      (s.seq = .idle →
        (s.inbox = [] → step s = .next s) ∧
          ∀ rest, s.inbox = .duty :: rest → step s = .next { s with inbox := rest })

/-! ### Request words: completion -/

/-- TXN_BEGIN with no transaction open presents START and latches the command; nothing else changes (R114 to R116,
R126). -/
def Obligations.TxnBeginPresentsStart : Prop :=
  ∀ s : State, s.rst = false → s.busy = false → s.txnOpen = false →
    exec .txnBegin s = .next (presentingStart (acceptedAt 0x01 false s))

/-- TXN_END with a transaction open presents END and latches the command; nothing else changes (R114 to R116, R127). -/
def Obligations.TxnEndPresentsEnd : Prop :=
  ∀ s : State, s.rst = false → s.busy = false → s.txnOpen = true →
    exec .txnEnd s = .next (presentingEnd (acceptedAt 0x02 false s))

/-- Each one-frame body command whose WRAP bit fits TXN_OPEN, and whose length, PLEN in RAWCFG bits 7:0 and POFF in bits
15:8 (R31), fits, is accepted with BODY_PEND set: with
WRAP = 1 START is presented, with WRAP = 0 BUILD is entered; nothing else changes (R84 to R92, R114 to R116, R128).
SUBCOMMAND, SET_MODE, SET_BRIGHTNESS, SET_DELAY, SET_DIRECTION, SET_COLORFUL, SET_COLOR, SET_RATE, RAW_FRAME. -/
def Obligations.OneFrameCommandsStart : Prop :=
  ∀ (s : State) (w : Bool), s.rst = false → s.busy = false → s.txnOpen = !w →
    let started := fun op : Byte => Host.Outcome.next (φ := Fault) (ρ := Refusal)
      (enteredBody w { acceptedAt op w s with bodyPend := true })
    exec (.setMode w) s = started 0x20 ∧ exec (.setBrightness w) s = started 0x21 ∧ exec (.setDelay w) s = started 0x22 ∧
      exec (.setDirection w) s = started 0x23 ∧ exec (.setColorful w) s = started 0x24 ∧
      exec (.setColor w) s = started 0x25 ∧ exec (.setRate w) s = started 0x26 ∧
      (8 + (s.rawcfg.extractLsb' 0 8).toNat ≤ 64 → exec (.subcommand w) s = started 0x06) ∧
      ((s.rawcfg.extractLsb' 8 8).toNat + (s.rawcfg.extractLsb' 0 8).toNat ≤ 64 → exec (.rawFrame w) s = started 0x30)

/-- KEYCOLORS whose WRAP bit fits TXN_OPEN is accepted with the chunker initialised: KC_REM the clamped count, KC_POS and
KC_N zero, KC_BASE the start key when there is a key to send; KC_START is KC_RANGE bits 15:0 and KC_COUNT bits 31:16;
KC_START past 126 is no error (R32, R102, R104, R110, R114 to R116). -/
def Obligations.KeycolorsStarts : Prop :=
  ∀ (s : State) (w : Bool), s.rst = false → s.busy = false → s.txnOpen = !w →
    let start := (s.kcRange.extractLsb' 0 16).toNat
    let k := clampedCount start (s.kcRange.extractLsb' 16 16).toNat
    exec (.keycolors w) s =
      .next (enteredBody w
        { acceptedAt 0x11 w s with
          kcRem := BitVec.ofNat 8 k, kcPos := 0, kcN := 0
          kcBase := if k > 0 then BitVec.ofNat 8 start else 0 })

/-! ### Request words: errors -/

/-- An illegal request word, its OP outside the map, any of bits 31:9 set, or WRAP on TXN_BEGIN or TXN_END, is stored in
CMD and ends at once with ILLEGAL_REQUEST: nothing is transmitted, BUSY is not set, TXN_OPEN is unchanged. These are the
only words that decode to no instruction (R59). -/
def Obligations.IllegalWordsEndAtOnce : Prop :=
  (∀ v : Word, (∃ e, decodeRequest v = .error e) ↔
      inOpMap (v.extractLsb' 0 8) = false ∨ v.extractLsb' 9 23 ≠ 0 ∨
        ((v.extractLsb' 0 8 = 0x01#8 ∨ v.extractLsb' 0 8 = 0x02#8) ∧ v.getLsbD 8 = true)) ∧
    ∀ (s : State) (v : Word) (rest : List Event), s.rst = false → s.busy = false → s.inbox = .write 0 v :: rest →
      (∃ e, decodeRequest v = .error e) →
        step s = .next { erroredAt v ⟨.illegalRequest, 0⟩ s with inbox := rest }

/-- A command that does not fit TXN_OPEN ends at once with SEQUENCE and the DETAIL of R132: TXN_BEGIN while open 0,
TXN_END while closed 1, a body command with WRAP = 1 while open 2, with WRAP = 0 while closed 3 (R115, R132, R134). -/
def Obligations.SequenceErrorsEndAtOnce : Prop :=
  ∀ s : State, s.rst = false → s.busy = false →
    (s.txnOpen = true → exec .txnBegin s = .next (erroredAt 0x01 ⟨.sequence, 0⟩ s)) ∧
      (s.txnOpen = false → exec .txnEnd s = .next (erroredAt 0x02 ⟨.sequence, 1⟩ s)) ∧
      ∀ w : Bool, s.txnOpen = w →
        let wrong := fun op : Byte => Host.Outcome.next (φ := Fault) (ρ := Refusal)
          (erroredAt (wordOfCommand op w) ⟨.sequence, if w then 2 else 3⟩ s)
        exec (.subcommand w) s = wrong 0x06 ∧ exec (.keycolors w) s = wrong 0x11 ∧ exec (.setMode w) s = wrong 0x20 ∧
          exec (.setBrightness w) s = wrong 0x21 ∧ exec (.setDelay w) s = wrong 0x22 ∧
          exec (.setDirection w) s = wrong 0x23 ∧ exec (.setColorful w) s = wrong 0x24 ∧
          exec (.setColor w) s = wrong 0x25 ∧ exec (.setRate w) s = wrong 0x26 ∧ exec (.rawFrame w) s = wrong 0x30

/-- A SUBCOMMAND whose argument does not fit ends with PAYLOAD_TOO_LARGE, DETAIL 1, a RAW_FRAME whose payload does not fit
with DETAIL 0, before any frame is sent, when the sequence check has passed; PLEN is RAWCFG bits 7:0 and POFF bits 15:8
(R31, R115, R132, R139). -/
def Obligations.SizeErrorsEndAtOnce : Prop :=
  ∀ (s : State) (w : Bool), s.rst = false → s.busy = false → s.txnOpen = !w →
    (8 + (s.rawcfg.extractLsb' 0 8).toNat > 64 →
        exec (.subcommand w) s = .next (erroredAt (wordOfCommand 0x06 w) ⟨.payloadTooLarge, 1⟩ s)) ∧
      ((s.rawcfg.extractLsb' 8 8).toNat + (s.rawcfg.extractLsb' 0 8).toNat > 64 →
        exec (.rawFrame w) s = .next (erroredAt (wordOfCommand 0x30 w) ⟨.payloadTooLarge, 0⟩ s))

/-- Acceptance is the spec's pseudocode: for EVERY word v written to CMD in IDLE, legal or not, the block does exactly what
Accept, Validate and Start say, line by line (R114, R115, R116); a write while BUSY = 1 is no acceptance, it sets OVR alone
(R18, R22). -/
def Obligations.AcceptanceFollowsThePseudocode : Prop :=
  ∀ (s : State) (v : Word), s.rst = false →
    (s.busy = false → s.seq = .idle → runRequest v s = .next (specAccept v s)) ∧
      (s.busy = true → runRequest v s = .next { s with ovr := true })

/-- No request word changes what is not its own: operands, IRQ_EN, the fault mark, the reset line, TXN_OPEN, what was sent
and read, and the agents' moves to come stay; the chunker registers stay unless the word is KEYCOLORS, the latches unless
it is accepted (R53, R54, R114, R134). All twelve request words. -/
def Obligations.RequestsLeaveTheRestUnchanged : Prop :=
  ∀ (i : Instr) (s t : State), i.asRequest.isSome = true → exec i s = .next t →
    SameOperands s t ∧ t.irqEn = s.irqEn ∧ t.faultMarks = s.faultMarks ∧ t.rst = s.rst ∧ t.txnOpen = s.txnOpen ∧
      t.sent = s.sent ∧ t.reads = s.reads ∧ t.inbox = s.inbox ∧ t.draws = s.draws ∧
      (s.busy = false → t.ovr = s.ovr) ∧
      ((∀ w, i ≠ .keycolors w) → SameChunker s t) ∧
      (s.busy = true → SameRequest s t ∧ SameChunker s t ∧ SameFrame s t ∧ SameLatches s t ∧ t.seq = s.seq ∧
        t.busy = s.busy ∧ t.done = s.done ∧ t.err = s.err ∧ t.detail = s.detail ∧ t.bodyAcked = s.bodyAcked) ∧
      (t.err ≠ .none → s.busy = false → SameChunker s t ∧ SameFrame s t ∧ SameLatches s t)

/-! ### BUILD -/

/-- BUILD of a named setting's body frame (R82, R85 to R91, R118): FB takes the sealed frame with the setting's descriptor
at offset 4 and its argument bytes from PB at offset 8, BODY_PEND is cleared, the exchange is presented; nothing else
changes. -/
def Obligations.BuildSendsTheNamedSetting : Prop :=
  ∀ (s : State), s.bodyPend = true →
    let sends := fun f : Frame => Host.Outcome.next (φ := Fault) (ρ := Refusal)
      (presentingBody f { s with bodyPend := false })
    (s.curOp = 0x20#8 → buildStep s = sends (frameOfBytes [0, 0, 0, 0x06, 1, 0, 0, 0, s.pb[0]])) ∧
      (s.curOp = 0x21#8 → buildStep s = sends (frameOfBytes [0, 0, 0, 0x06, 1, 1, 0, 0, s.pb[0]])) ∧
      (s.curOp = 0x22#8 → buildStep s = sends (frameOfBytes [0, 0, 0, 0x06, 1, 2, 0, 0, s.pb[0]])) ∧
      (s.curOp = 0x23#8 → buildStep s = sends (frameOfBytes [0, 0, 0, 0x06, 1, 3, 0, 0, s.pb[0]])) ∧
      (s.curOp = 0x24#8 → buildStep s = sends (frameOfBytes [0, 0, 0, 0x06, 1, 4, 0, 0, s.pb[0]])) ∧
      (s.curOp = 0x25#8 →
        buildStep s = sends (frameOfBytes [0, 0, 0, 0x06, 3, 5, 0, 0, s.pb[0], s.pb[1], s.pb[2]])) ∧
      (s.curOp = 0x26#8 → buildStep s = sends (frameOfBytes [0, 0, 0, 0x06, 1, 0x0F, 0, 0, s.pb[0]]))

/-- BUILD of a SUBCOMMAND or RAW_FRAME body frame whose length fits (R84, R92, R118): the descriptor is DESC, low byte
first, the argument PB[0..PLEN-1] at offset 8; a raw frame has tag RTAG, command RCMD and payload PB[0..PLEN-1] at POFF,
copied over them; PLEN, POFF, RTAG and RCMD are RAWCFG bits 7:0, 15:8, 23:16 and 31:24 (R31). Bytes 1 and 2 are then the
checksum. -/
def Obligations.BuildSendsTheGenericFrame : Prop :=
  ∀ (s : State), s.bodyPend = true →
    let plen := (s.rawcfg.extractLsb' 0 8).toNat
    let poff := (s.rawcfg.extractLsb' 8 8).toNat
    (s.curOp = 0x06#8 → 8 + plen ≤ 64 →
      ∃ f : Frame, buildStep s = .next (presentingBody f { s with bodyPend := false }) ∧
        ∀ i (_ : i < 64), f[i] =
          if i = 3 then 0x06#8 else if 4 ≤ i ∧ i < 8 then s.desc.extractLsb' (8 * (i - 4)) 8
          else if h : 8 ≤ i ∧ i < 8 + plen then s.pb[i - 8] else 0) ∧
      (s.curOp = 0x30#8 → poff + plen ≤ 64 →
        ∃ f : Frame, buildStep s = .next (presentingBody f { s with bodyPend := false }) ∧
          ∀ i (_ : i < 64), f[i] =
            if h : poff ≤ i ∧ i < poff + plen then s.pb[i - poff]
            else if i = 0 then s.rawcfg.extractLsb' 16 8 else if i = 3 then s.rawcfg.extractLsb' 24 8 else 0)

/-- BUILD of a key-color frame (R106, R118): KC_N is min(KC_REM, 18), FB takes the sealed frame of the keys from KC_BASE +
KC_POS with the colours of CB from entry KC_POS, the exchange is presented. When every entry it reads has been written
since reset those are the colours the requester wrote and no fault is recorded. -/
def Obligations.BuildSendsTheNextChunk : Prop :=
  ∀ (s : State), s.curOp = 0x11#8 → s.kcRem ≠ 0 →
    (∀ j, j < min s.kcRem.toNat 18 → ∃ e, s.cb[s.kcPos.toNat + j]? = some e ∧ e.written = true) →
      let n := min s.kcRem.toNat 18
      buildStep s =
        .next (presentingBody
          (keyColorFrame (s.kcBase.toNat + s.kcPos.toNat) n (writtenColours s s.kcPos.toNat n))
          { s with kcN := BitVec.ofNat 8 n, draws := s.draws + n })

/-- The chunker reading entries whose mark may be clear: it records a fault naming each entry it reads that nothing has
written since reset, and no other, and sends the frame all the same, with the written colours where they are written; the
rest of the step is that of any chunk (R43, R47, R106). That an unwritten entry sends a free colour is log 4; that an index
past 125, which no run reaches, counts as unwritten is log 12. -/
def Obligations.UnwrittenColourIsRecorded : Prop :=
  ∀ (s : State), s.curOp = 0x11#8 → s.kcRem ≠ 0 →
    let n := min s.kcRem.toNat 18
    ∃ (cs : List Colour) (new : List FaultMark), cs.length = n ∧
      buildStep s =
        .next (presentingBody (keyColorFrame (s.kcBase.toNat + s.kcPos.toNat) n cs)
          { s with kcN := BitVec.ofNat 8 n, draws := s.draws + n, faultMarks := s.faultMarks ++ new }) ∧
      (∀ j e, s.cb[s.kcPos.toNat + j]? = some e → e.written = true → j < n → cs[j]? = some e.colour) ∧
      ∀ i, FaultMark.unwrittenColour i ∈ new ↔
        s.kcPos.toNat ≤ i ∧ i < s.kcPos.toNat + n ∧ s.cbWritten i = false

/-- BUILD with no body frame left presents END when the command is wrapped and completes it otherwise: for KEYCOLORS when
KC_REM = 0, for every other command when BODY_PEND = 0 (R118, R121; a KEYCOLORS request of no key thus ends without error,
R102, R133). -/
def Obligations.BuildEndsTheCommand : Prop :=
  ∀ (s : State), (if s.curOp = 0x11#8 then s.kcRem = 0 else s.bodyPend = false) →
    buildStep s =
      .next (if s.curWrap then presentingEnd s else { s with busy := false, done := true, seq := .idle })

/-- A named setting sends the frame that SUBCOMMAND sends with the setting's descriptor in DESC and the setting's length
in PLEN (R75, R82). -/
def Obligations.NamedSettingEqualsSubcommand : Prop :=
  ∀ s : State,
    (s.plen = 1 →
      (s.desc = 0x00000001 → bodySetMode s = bodySubcommand s) ∧
        (s.desc = 0x00000101 → bodySetBrightness s = bodySubcommand s) ∧
        (s.desc = 0x00000201 → bodySetDelay s = bodySubcommand s) ∧
        (s.desc = 0x00000301 → bodySetDirection s = bodySubcommand s) ∧
        (s.desc = 0x00000401 → bodySetColorful s = bodySubcommand s) ∧
        (s.desc = 0x00000F01 → bodySetRate s = bodySubcommand s)) ∧
      (s.plen = 3 → s.desc = 0x00000503 → bodySetColor s = bodySubcommand s)

/-! ### Frame instructions -/

/-- FRAME_START answered OK in SEND_START: the transaction is open; TXN_BEGIN completes, any other command goes on to
BUILD (R117, R121, R123). -/
def Obligations.StartFrameAcknowledged : Prop :=
  ∀ (s : State) (rest : List Event), s.rst = false → s.seq = .sendStart → s.fb = frameOfBytes [0, 1, 0, 1] →
    s.inbox = .respond .ok :: rest →
      exec .frameStart s =
        .next (if s.curOp = 0x01#8 then
            { answeredBy .ok rest s with txnOpen := true, busy := false, done := true, seq := .idle }
          else { answeredBy .ok rest s with txnOpen := true, seq := .build })

/-- FRAME_END answered OK in SEND_END: the transaction is closed and the command completes (R120, R121, R123). -/
def Obligations.EndFrameAcknowledged : Prop :=
  ∀ (s : State) (rest : List Event), s.rst = false → s.seq = .sendEnd → s.fb = frameOfBytes [0, 2, 0, 2] →
    s.inbox = .respond .ok :: rest →
      exec .frameEnd s =
        .next { answeredBy .ok rest s with txnOpen := false, busy := false, done := true, seq := .idle }

/-- Every frame instruction whose frame FB presents in SEND_BODY, answered OK: BODY_ACKED is incremented, a KEYCOLORS
command advances its chunker, the sequencer returns to BUILD (R107, R119, R123). FRAME_SUBCOMMAND, its seven named rows and
FRAME_KEYCOLORS; FRAME_START and FRAME_END too when a RAW_FRAME sends their bytes, which leaves TXN_OPEN as it is (R92).
That the 8-bit sums wrap in states no run reaches is log 13, that executing a frame is its exchange log 7. -/
def Obligations.BodyFramesAcknowledged : Prop :=
  ∀ (s : State) (rest : List Event), s.rst = false → s.seq = .sendBody → s.inbox = .respond .ok :: rest →
    let acked := Host.Outcome.next (φ := Fault) (ρ := Refusal)
      (if s.curOp = 0x11#8 then
        { answeredBy .ok rest s with
          bodyAcked := s.bodyAcked + 1, kcPos := s.kcPos + s.kcN, kcRem := s.kcRem - s.kcN, seq := .build }
      else { answeredBy .ok rest s with bodyAcked := s.bodyAcked + 1, seq := .build })
    (∀ ck d arg, s.fb = encSubcommand ck d arg → exec (.frameSubcommand ck d arg) s = acked) ∧
      (∀ ck a, s.fb = encSubcommand ck ⟨1, 0, 0, 0⟩ (dataArea [a]) → exec (.frameSubcommandMode ck a) s = acked) ∧
      (∀ ck a, s.fb = encSubcommand ck ⟨1, 1, 0, 0⟩ (dataArea [a]) → exec (.frameSubcommandBrightness ck a) s = acked) ∧
      (∀ ck a, s.fb = encSubcommand ck ⟨1, 2, 0, 0⟩ (dataArea [a]) → exec (.frameSubcommandDelay ck a) s = acked) ∧
      (∀ ck a, s.fb = encSubcommand ck ⟨1, 3, 0, 0⟩ (dataArea [a]) → exec (.frameSubcommandDirection ck a) s = acked) ∧
      (∀ ck a, s.fb = encSubcommand ck ⟨1, 4, 0, 0⟩ (dataArea [a]) → exec (.frameSubcommandColorful ck a) s = acked) ∧
      (∀ ck r g b, s.fb = encSubcommand ck ⟨3, 5, 0, 0⟩ (dataArea [r, g, b]) →
        exec (.frameSubcommandColor ck r g b) s = acked) ∧
      (∀ ck a, s.fb = encSubcommand ck ⟨1, 0x0F, 0, 0⟩ (dataArea [a]) → exec (.frameSubcommandRate ck a) s = acked) ∧
      (∀ ck n o d, s.fb = encKeycolors ck n o d → exec (.frameKeycolors ck n o d) s = acked) ∧
      (s.fb = frameOfBytes [0, 1, 0, 1] → exec .frameStart s = acked) ∧
      (s.fb = frameOfBytes [0, 2, 0, 2] → exec .frameEnd s = acked)

/-- A presented exchange answered by a failure the transport may give: the transaction is dead, ERR is TRANSPORT, DETAIL
is phase * 4 + kind, the command ends; FB and BODY_ACKED stay, nothing more is sent (R122), and the chunker registers are
not written. It holds whichever of the eleven frame instructions FB holds, and for a frame no row describes (log 9); the
record of the exchange is the model's (log 16). -/
def Obligations.FailedExchangeAborts : Prop :=
  ∀ (s : State) (r : Response) (rest : List Event), s.rst = false →
    (s.seq = .sendStart ∨ s.seq = .sendBody ∨ s.seq = .sendEnd) →
    (r = .writeFail ∨ (s.seq = .sendBody ∧ (r = .readTimeout ∨ r = .readFail))) → s.inbox = .respond r :: rest →
      let phase : Nat := if s.seq = .sendStart then 0 else if s.seq = .sendBody then 1 else 2
      let kind : Nat := if r = .writeFail then 0 else if r = .readTimeout then 1 else 2
      step s =
        .next { answeredBy r rest s with
          txnOpen := false, err := .transport, detail := BitVec.ofNat 4 (phase * 4 + kind)
          busy := false, done := true, seq := .idle }

/-- An exchange nobody has scheduled an answer for is answered all the same, by a permitted response whatever the free
value is, and the block reacts to it as to a scheduled one (R123, R161; that the answer is a free value is log 1). All
eleven frame instructions. -/
def Obligations.UnscheduledExchangeIsAnswered : Prop :=
  ∀ (i : Instr) (s : State) (q : PortRequest), i.asFrame = some s.fb → s.portRequest = some q → s.inbox = [] →
    ∃ r t, exec i { s with inbox := [.respond r] } = .next t ∧
      permitted q.expectReply r = true ∧ exec i s = .next { t with draws := s.draws + 1 }

/-- A response with no request presented, and READ_TIMEOUT or READ_FAIL to an exchange without reply, have no move: the
step stops with the fault that says so (R123, S5; the stop is log 2). -/
def Obligations.ResponseWithoutAMoveIsStuck : Prop :=
  ∀ (s : State) (r : Response) (rest : List Event), s.inbox = .respond r :: rest →
    (s.portRequest = none ∨
        ((s.seq = .sendStart ∨ s.seq = .sendEnd) ∧ (r = .readTimeout ∨ r = .readFail))) →
      step s = .fault .noMove

/-- No frame instruction changes what is not its own: the request registers, FB with its checksum, IRQ_EN, OVR, the fault
mark, the reset line, the latches, KC_BASE and KC_N stay; the exchange is the one frame recorded as sent, with FB's bytes,
a reply expected exactly in SEND_BODY, and TIMEOUT_MS (R45, R51, R123 to R125). All eleven frame instructions. The record
is log 16; that START and END exchanges hold TIMEOUT_MS too, where nothing reads it, is log 24. -/
def Obligations.FramesLeaveTheRestUnchanged : Prop :=
  ∀ (i : Instr) (s t : State), i.asFrame.isSome = true → exec i s = .next t →
    SameRequest s t ∧ SameFrame s t ∧ SameLatches s t ∧ t.irqEn = s.irqEn ∧ t.ovr = s.ovr ∧
      t.faultMarks = s.faultMarks ∧ t.rst = s.rst ∧ t.kcBase = s.kcBase ∧ t.kcN = s.kcN ∧ t.reads = s.reads ∧
      i.asFrame = some s.fb ∧
      ∃ r, t.sent = s.sent ++ [⟨s.seq, ⟨s.fb, s.seq == .sendBody, s.timeoutMs⟩, r⟩] ∧
        permitted (s.seq == .sendBody) r = true

/-! ### The frame builder and the checksum -/

/-- BuildControlFrame fails exactly when off + L > 64, and otherwise sets the tag at 0, the command at 3, the payload over
them, and zero everywhere else (R64, R78, R79). -/
def Obligations.ControlFrameBytes : Prop :=
  ∀ (tag c : Byte) (p : List Byte) (off : Nat),
    (off + p.length > 64 → buildControlFrame tag c p off = .error ⟨.payloadTooLarge, 0⟩) ∧
      (off + p.length ≤ 64 → ∃ f, buildControlFrame tag c p off = .ok f ∧
        ∀ i (_ : i < 64), f[i] =
          if h : off ≤ i ∧ i < off + p.length then p[i - off]'(by omega)
          else if i = 0 then tag else if i = 3 then c else 0)

/-- A subcommand frame's descriptor and argument are read back exactly from bytes 4 to 7 and 8 on; the builder leaves the
checksum bytes zero, and every other byte of the sealed frame is that of R67; an argument over 56 bytes is refused with
DETAIL 1 (R67, R80, R93). -/
def Obligations.SubcommandFrameRoundTrip : Prop :=
  ∀ (d a : List Byte), d.length = 4 →
    (a.length > 56 → buildSubcommandFrame d a = .error ⟨.payloadTooLarge, 1⟩) ∧
      (a.length ≤ 56 → ∃ f, buildSubcommandFrame d a = .ok f ∧ f[1] = 0 ∧ f[2] = 0 ∧
        ((sealFrame f).toList.drop 4).take 4 = d ∧ ((sealFrame f).toList.drop 8).take a.length = a ∧
        (sealFrame f)[0] = 0 ∧ (sealFrame f)[3] = 0x06#8 ∧ Sealed (sealFrame f) ∧
        ∀ i (_ : i < 64), 8 + a.length ≤ i → (sealFrame f)[i] = 0)

/-- The START frame is 00 01 00 01 and 60 zero bytes, the END frame 00 02 00 02 and 60 zero bytes (R65, R66). -/
def Obligations.StartAndEndFrameBytes : Prop :=
  (sealFrame (ctrlFrame 0x01)).toList = [0x00, 0x01, 0x00, 0x01] ++ List.replicate 60 0 ∧
    (sealFrame (ctrlFrame 0x02)).toList = [0x00, 0x02, 0x00, 0x02] ++ List.replicate 60 0

/-- A sealed key-color frame for n keys from key s, byte by byte (R68). -/
def Obligations.KeyColorFrameBytes : Prop :=
  ∀ (s n : Nat) (cs : List Colour) (hn : cs.length = n), 1 ≤ n → ∀ (h18 : n ≤ 18), s + n ≤ 126 →
    let f := sealFrame (keyColorFrame s n cs)
    f[0].toNat = 4 ∧ Sealed f ∧ f[3].toNat = 0x11 ∧ f[4].toNat = 3 * n ∧ f[5].toNat = 3 * s % 256 ∧
      f[6].toNat = 3 * s / 256 ∧ f[7].toNat = 0 ∧
      (∀ j (h : j < n), f[8 + 3 * j]'(by omega) = cs[j].r ∧ f[9 + 3 * j]'(by omega) = cs[j].g ∧
        f[10 + 3 * j]'(by omega) = cs[j].b) ∧
      ∀ i (_ : i < 64), 8 + 3 * n ≤ i → f[i] = 0

/-- Checksum is the low and the high byte of the sum of bytes 3 to 63 modulo 2^16; the sum never reaches 2^16, and bytes
0, 1 and 2 never affect it (R94; the bound is R98's). -/
def Obligations.ChecksumIsTheByteSum : Prop :=
  (∀ f : Frame, (checksum f).1.toNat = byteSum f % 65536 % 256 ∧ (checksum f).2.toNat = byteSum f % 65536 / 256 ∧
      byteSum f ≤ 15555 ∧ (checksum f).2.toNat ≤ 0x3C) ∧
    ∀ f g : Frame, (∀ i (_ : i < 64), 3 ≤ i → f[i] = g[i]) → checksum f = checksum g

/-- Recomputing the checksum of a sealed frame, with its checksum bytes zeroed or left in place, gives the two bytes
stored in it (R99). Sealing any frame writes its checksum in bytes 1 and 2, low byte first, keeps every other byte, and
gives a sealed frame. -/
def Obligations.SealIsSelfConsistent : Prop :=
  (∀ f : Frame, Sealed f →
      checksum ((f.set 1 0).set 2 0) = (f[1], f[2]) ∧ checksum f = (f[1], f[2]) ∧ sealFrame f = f) ∧
    ∀ f : Frame, Sealed (sealFrame f) ∧
      ∀ i (_ : i < 64), (sealFrame f)[i] =
        if i = 1 then (checksum f).1 else if i = 2 then (checksum f).2 else f[i]

/-- Two frames that differ only in byte 0 have the same checksum; the command byte is in the sum, so START and END differ
in bytes 1 and 3; the mode-3 frame sums to 10 (R100). -/
def Obligations.TagIsNotChecksummed : Prop :=
  (∀ (f : Frame) (b : Byte), checksum (f.set 0 b) = checksum f) ∧
    (sealFrame (ctrlFrame 0x01))[1] ≠ (sealFrame (ctrlFrame 0x02))[1] ∧
    (sealFrame (ctrlFrame 0x01))[3] ≠ (sealFrame (ctrlFrame 0x02))[3] ∧
    checksum (frameOfBytes [0, 0, 0, 6, 1, 0, 0, 0, 3]) = (0x0A, 0x00)

/-! ### The chunker -/

/-- ClampedCount: 0 past key 126, else min(count, 126 - start); the keys covered are all at most 125 (R101, R102). -/
def Obligations.ClampedCountIsTheMinimum : Prop :=
  ∀ start count : Nat,
    (start > 126 → clampedCount start count = 0) ∧
      (start ≤ 126 → clampedCount start count = min count (126 - start)) ∧
      (clampedCount start count > 0 → start + clampedCount start count - 1 ≤ 125)

/-- k keys from key `start` make ceil(k / 18) frames, at most 7; each holds 1 to 18 keys, all but the last exactly 18; in
order they cover start, start + 1, up to start + k - 1 with no gap and no repeat (R103, R108, R111). -/
def Obligations.ChunkPlanIsExhaustive : Prop :=
  ∀ start k : Nat, k ≤ 126 →
    (chunkPlan 7 start k).length = (k + 17) / 18 ∧ planKeys (chunkPlan 7 start k) = List.range' start k ∧
      (∀ q ∈ chunkPlan 7 start k, 1 ≤ q.2 ∧ q.2 ≤ 18) ∧
      ∀ q ∈ (chunkPlan 7 start k).dropLast, q.2 = 18

/-- A KEYCOLORS command at its first BUILD, whose CB entries are written and whose exchanges are all answered OK, sends
exactly the frames of its plan, one after another, each with the colours of its keys' positions; it ends back in BUILD with
nothing left to send, every frame counted and no fault recorded (R105 to R109, R111). That the moves of the encoder and
the transport are listed in the inbox is log 1. -/
def Obligations.KeycolorsSendsItsWholePlan : Prop :=
  ∀ (s : State) (rest : List Event), s.Inv → s.seq = .build → s.curOp = 0x11#8 → s.kcPos = 0 → s.bodyAcked = 0 →
    (∀ j, j < s.clamped → s.cbWritten j = true) →
      let plan := chunkPlan 7 s.kcStart.toNat s.clamped
      s.inbox = chunkScript plan.length ++ rest →
        ∃ t, core.run (2 * plan.length) s = .next t ∧ t.sent = s.sent ++ planExchanges s s.kcStart.toNat plan ∧
          t.kcRem = 0 ∧ t.seq = .build ∧ t.bodyAcked.toNat = plan.length ∧ t.faultMarks = s.faultMarks ∧
          t.inbox = rest ∧ t.txnOpen = true

/-! ### The register interface -/

/-- STATUS.OVR: it is bit 3 and reset to 0; a write to CMD or a request register while BUSY = 1 is ignored and sets it,
changing nothing else; acceptance leaves it, and writes to CTRL, STATUS, read-only words and unmapped offsets never set it;
once set it stays set until a STATUS write with bit 3 set, or reset (R22). -/
def Obligations.BusyWritesSetOverrun : Prop :=
  State.reset.ovr = false ∧ (∀ s : State, s.statusWord.getLsbD 3 = s.ovr) ∧
    (∀ (s : State) (a : Offset) (v : Word) (rest : List Event), s.rst = false → s.inbox = .write a v :: rest →
      let w := a.toNat / 4
      let request := w = 0 ∨ (3 ≤ w ∧ w ≤ 6) ∨ (16 ≤ w ∧ w < 32) ∨ (128 ≤ w ∧ w < 254)
      (s.busy = true → request → step s = .next { s with inbox := rest, ovr := true }) ∧
        (s.busy = false → request → ∃ t, step s = .next t ∧ t.ovr = s.ovr) ∧
        (w = 1 → ∃ t, step s = .next t ∧ t.ovr = (s.ovr && !v.getLsbD 3)) ∧
        (¬ request → w ≠ 1 → ∃ t, step s = .next t ∧ t.ovr = s.ovr)) ∧
    ∀ s t : State, step s = .next t → s.ovr = true → t.ovr = false →
      (∃ a v rest, s.inbox = .write a v :: rest ∧ a.toNat / 4 = 1 ∧ v.getLsbD 3 = true) ∨
        ∃ l rest, s.inbox = .rst l :: rest

/-- A STATUS write clears DONE where bit 2 is set and OVR where bit 3 is set, whatever else the value holds, and changes
nothing else, whether or not a command runs (R21, R22, R27, R53). -/
def Obligations.StatusBitsClearByWritingOne : Prop :=
  ∀ (s : State) (a : Offset) (v : Word) (rest : List Event), s.rst = false → s.inbox = .write a v :: rest →
    a.toNat / 4 = 1 →
      step s = .next { s with
        inbox := rest
        done := if v.getLsbD 2 then false else s.done
        ovr := if v.getLsbD 3 then false else s.ovr }

/-- CTRL is writable at any time and holds IRQ_EN in bit 0 alone; `irq` is then that bit and DONE; it falls when DONE is
cleared by a STATUS write or by acceptance of a word that passes validation; offset bits 1:0 are ignored (R28, R50,
R137). -/
def Obligations.IrqFollowsEnableAndDone : Prop :=
  ∀ (s : State) (a : Offset) (v : Word) (rest : List Event), s.rst = false →
    s.inbox = .write a v :: rest →
      (a.toNat / 4 = 2 →
          step s = .next { s with inbox := rest, irqEn := v.getLsbD 0 } ∧
            ∀ t, step s = .next t → t.irq = (v.getLsbD 0 && s.done) ∧ readWord a t = v &&& 1) ∧
        (a.toNat / 4 = 1 → v.getLsbD 2 = true → ∃ t, step s = .next t ∧ t.irq = false) ∧
        (a.toNat / 4 = 0 → s.busy = false → specValidate v s = none → ∃ t, step s = .next t ∧ t.irq = false)

/-- A requester read changes no register, buffer, latch or mark, sends nothing, and hands over one value (R53). -/
def Obligations.ReadsHaveNoSideEffect : Prop :=
  ∀ (s : State) (a : Offset) (rest : List Event), s.inbox = .read a :: rest →
    ∃ t, step s = .next t ∧ SameRegisters s t ∧ t.sent = s.sent ∧ t.inbox = rest ∧
      t.reads = s.reads ++ [⟨a, readWord a s⟩]

/-- What a read returns while `rst` is released, by byte offset, bits 1:0 ignored: the register of the map, 0 where
nothing is mapped; an FB word its bytes while BUSY = 0, a CB word the colour of a written entry with 0 in bits 31:24, which an
unwritten entry's word has too (R17, R40, R42 to R44, R49, R50, R52). -/
def Obligations.ReadsFollowTheMap : Prop :=
  ∀ (s : State) (a : Offset), s.rst = false →
    let w := a.toNat / 4
    (w = 0 → readWord a s = s.cmd) ∧ (w = 1 → readWord a s = s.statusWord) ∧
      (w = 2 → (readWord a s).toNat = s.irqEn.toNat) ∧ (w = 3 → readWord a s = s.timeoutMs) ∧
      (w = 4 → readWord a s = s.desc) ∧ (w = 5 → readWord a s = s.rawcfg) ∧ (w = 6 → readWord a s = s.kcRange) ∧
      (w = 7 → (readWord a s).toNat = s.lastCksum.toNat) ∧
      (∀ h : 16 ≤ w ∧ w < 32, ∀ j (_ : j < 4), (readWord a s).extractLsb' (8 * j) 8 = s.pb[4 * (w - 16) + j]) ∧
      (∀ h : 32 ≤ w ∧ w < 48, s.busy = false →
        ∀ j (_ : j < 4), (readWord a s).extractLsb' (8 * j) 8 = s.fb[4 * (w - 32) + j]) ∧
      (∀ h : 128 ≤ w ∧ w < 254, (s.cb[w - 128]).written = true →
        (readWord a s).toNat =
          (s.cb[w - 128]).colour.r.toNat + 256 * (s.cb[w - 128]).colour.g.toNat +
            65536 * (s.cb[w - 128]).colour.b.toNat) ∧
      (128 ≤ w ∧ w < 254 → (readWord a s).extractLsb' 24 8 = 0) ∧
      ((8 ≤ w ∧ w < 16) ∨ (48 ≤ w ∧ w < 128) ∨ 254 ≤ w → readWord a s = 0)

/-- The STATUS word, bit field by bit field: BUSY 0, TXN_OPEN 1, DONE 2, OVR 3, ERR 7:4, DETAIL 11:8, BODY_ACKED 23:16,
SEQ_STATE 26:24; bits 15:12 and 31:27 read 0 (R19 to R27). ERR reads 0 to 4 for none, PAYLOAD_TOO_LARGE, TRANSPORT,
ILLEGAL_REQUEST and SEQUENCE (R131), SEQ_STATE 0 to 4 for IDLE, SEND_START, BUILD, SEND_BODY and SEND_END (R33). -/
def Obligations.StatusWordLayout : Prop :=
  ∀ s : State,
    s.statusWord.getLsbD 0 = s.busy ∧ s.statusWord.getLsbD 1 = s.txnOpen ∧ s.statusWord.getLsbD 2 = s.done ∧
      s.statusWord.getLsbD 3 = s.ovr ∧
      s.statusWord.extractLsb' 4 4 =
        (match s.err with
        | .none => 0 | .payloadTooLarge => 1 | .transport => 2 | .illegalRequest => 3 | .sequence => 4) ∧
      s.statusWord.extractLsb' 8 4 = s.detail ∧ s.statusWord.extractLsb' 12 4 = 0 ∧
      s.statusWord.extractLsb' 16 8 = s.bodyAcked ∧
      s.statusWord.extractLsb' 24 3 =
        (match s.seq with
        | .idle => 0 | .sendStart => 1 | .build => 2 | .sendBody => 3 | .sendEnd => 4) ∧
      s.statusWord.extractLsb' 27 5 = 0

/-- A request register written while BUSY = 0 reads back what was written (a CB word without bits 31:24, and its
written-since-reset mark is set), and nothing else changes (R29 to R32, R39, R42 to R44, R49, R53). -/
def Obligations.RequestRegistersReadBack : Prop :=
  ∀ (s : State) (a : Offset) (v : Word) (rest : List Event), s.rst = false → s.busy = false →
    s.inbox = .write a v :: rest →
      let w := a.toNat / 4
      (w = 3 → step s = .next { s with inbox := rest, timeoutMs := v }) ∧
        (w = 4 → step s = .next { s with inbox := rest, desc := v }) ∧
        (w = 5 → step s = .next { s with inbox := rest, rawcfg := v }) ∧
        (w = 6 → step s = .next { s with inbox := rest, kcRange := v }) ∧
        (16 ≤ w ∧ w < 32 → ∃ t, step s = .next t ∧ readWord a t = v ∧ t = { s with inbox := rest, pb := t.pb } ∧
          (∀ j (_ : j < 64), ¬ (4 * (w - 16) ≤ j ∧ j < 4 * (w - 16) + 4) → t.pb[j] = s.pb[j])) ∧
        (∀ h : 128 ≤ w ∧ w < 254, ∃ t, step s = .next t ∧ readWord a t = v &&& 0x00FFFFFF ∧
          t = { s with inbox := rest, cb := t.cb } ∧ (t.cb[w - 128]).written = true ∧
          (∀ j (_ : j < 126), j ≠ w - 128 → t.cb[j] = s.cb[j]))

/-- Writes to LAST_CKSUM, FB and unmapped offsets change nothing at all (R40, R52). -/
def Obligations.ReadOnlyWordsIgnoreWrites : Prop :=
  ∀ (s : State) (a : Offset) (v : Word) (rest : List Event), s.inbox = .write a v :: rest →
    let w := a.toNat / 4
    ((7 ≤ w ∧ w < 16) ∨ (32 ≤ w ∧ w < 128) ∨ 254 ≤ w) → step s = .next { s with inbox := rest }

/-! ### Reset -/

/-- Releasing `rst` from any state leaves every register, flag, latch and buffer at its value of R148, every
written-since-reset mark clear, no request presented, `irq` low, and the fault mark as it was; the state a run starts from
is such a state with no fault recorded (R148, R150). -/
def Obligations.ResetValues : Prop :=
  (∀ (s : State) (rest : List Event), s.rst = true → s.inbox = .rst false :: rest →
    ∃ t, step s = .next t ∧ t.faultMarks = s.faultMarks ∧ t.rst = false ∧ t.inbox = rest ∧
      t.portRequest = none ∧ t.irq = false ∧ (∀ i (_ : i < 126), t.cb[i].written = false) ∧
      t.cmd = 0 ∧ t.busy = false ∧ t.txnOpen = false ∧ t.done = false ∧ t.ovr = false ∧ t.err = .none ∧ t.detail = 0 ∧
      t.bodyAcked = 0 ∧ t.statusWord = 0 ∧ t.seq = .idle ∧ t.irqEn = false ∧ t.timeoutMs = 0x000003E8 ∧ t.desc = 0 ∧
      t.rawcfg = 0 ∧ t.kcRange = 0 ∧ t.lastCksum = 0 ∧ t.curOp = 0 ∧ t.curWrap = false ∧ t.bodyPend = false ∧
      t.acc = 0 ∧ t.kcBase = 0 ∧ t.kcPos = 0 ∧ t.kcRem = 0 ∧ t.kcN = 0 ∧
      (∀ i (_ : i < 64), t.pb[i] = 0 ∧ t.fb[i] = 0)) ∧
    State.reset = { resetRegisters State.reset with faultMarks := [], rst := false } ∧ State.reset.faultMarks = [] ∧
    State.reset.rst = false ∧ State.reset.portRequest = none

/-- Asserting `rst` at any time ends a running command with no completion: no DONE, no error, no further frame, TXN_OPEN =
0; an outstanding request is withdrawn, and a response that comes later has no move (R149; that the registers take their
reset values at once is log 6, that a scheduled response has no move log 2, that the withdrawn frame is not recorded
log 27). -/
def Obligations.ResetWithdrawsTheRequest : Prop :=
  ∀ (s : State) (rest : List Event), s.inbox = .rst true :: rest →
    ∃ t, step s = .next t ∧ t.rst = true ∧ t.portRequest = none ∧ t.seq = .idle ∧ t.done = false ∧ t.err = .none ∧
      t.txnOpen = false ∧ t.sent = s.sent ∧ t.faultMarks = s.faultMarks ∧ t.inbox = rest ∧
      ∀ r rest', rest = .respond r :: rest' → step t = .fault .noMove

/-- While `rst` is asserted requester writes are ignored, reads change no register, nothing is sent, and the block takes
no step of its own (R147). -/
def Obligations.HeldInResetNothingMoves : Prop :=
  ∀ (s : State), s.rst = true →
    (∀ a v rest, s.inbox = .write a v :: rest → step s = .next { s with inbox := rest }) ∧
      (∀ a rest, s.inbox = .read a :: rest → ∃ t, step s = .next t ∧ SameRegisters s t ∧ t.sent = s.sent) ∧
      (s.inbox = [] → step s = .next s) ∧
      (∀ rest, s.inbox = .build :: rest → step s = .fault .noMove)

/-! ### Whole-machine rules -/

/-- Every step keeps the invariant of the block, from every state that meets it. That the registers are at their reset
values all the while `rst` is asserted, a clause of it, is log 6, and for the stored colours log 4. -/
def Obligations.StepKeepsTheInvariant : Prop := ∀ s t : State, s.Inv → step s = .next t → t.Inv

/-- The state after reset meets the invariant, and so does a run's start. -/
def Obligations.ResetMeetsTheInvariant : Prop := State.reset.Inv ∧ State.reset.Shaped

/-- The exchanges of a run form transactions [START, B1, ..., BN, END]: every step keeps that shape; a step sends a body
or END frame only while TXN_OPEN = 1, and START only while TXN_OPEN = 0 (R129). The frames are those of the record log 16,
without one that a reset withdrew before its response (log 27). -/
def Obligations.ExchangesFormTransactions : Prop :=
  ∀ s t : State, s.Inv → s.Shaped → step s = .next t →
    t.Shaped ∧
      ∀ e, t.sent = s.sent ++ [e] →
        (e.phase = .sendStart → s.txnOpen = false) ∧
          (e.phase = .sendBody ∨ e.phase = .sendEnd → s.txnOpen = true)

/-- Every frame handed over is the sealed frame FB holds, START in SEND_START and END in SEND_END, and no step sends more
than one (R33, R40, R65, R66, R97, R125). The record of the frames is log 16; that START and END exchanges hold TIMEOUT_MS
too, where nothing reads it, is log 24. -/
def Obligations.EveryFrameSentIsSealed : Prop :=
  ∀ s t : State, s.Inv → step s = .next t →
    t.sent = s.sent ∨ ∃ e, t.sent = s.sent ++ [e] ∧ e.request.frame = s.fb ∧ Sealed e.request.frame ∧
      permitted e.request.expectReply e.response = true ∧ (e.request.expectReply = true ↔ e.phase = .sendBody) ∧
      e.request.timeoutMs = s.timeoutMs ∧ (e.phase = .sendStart → e.request.frame = encStart) ∧
      (e.phase = .sendEnd → e.request.frame = encEnd)

/-- No step clears the fault mark, reset included: what was recorded stays recorded (R47). -/
def Obligations.FaultMarkIsNeverCleared : Prop :=
  ∀ s t : State, step s = .next t → s.faultMarks <+: t.faultMarks

/-- TXN_OPEN is set only by an OK answer to a START exchange, and cleared only by an OK answer to an END exchange, by a
failed exchange, or by reset (R20, R148). -/
def Obligations.TxnOpenFollowsTheExchanges : Prop :=
  ∀ s t : State, step s = .next t →
    (s.txnOpen = false → t.txnOpen = true → s.seq = .sendStart ∧
        ∃ q, t.sent = s.sent ++ [⟨.sendStart, q, .ok⟩]) ∧
      (s.txnOpen = true → t.txnOpen = false →
        (∃ l rest, s.inbox = .rst l :: rest) ∨
          ∃ e, t.sent = s.sent ++ [e] ∧ (e.response ≠ .ok ∨ e.phase = .sendEnd))

/-- The operands of a running command are fixed: no step but reset changes a request register while BUSY = 1, whatever
the requester writes (R15, R22, R54). -/
def Obligations.OperandsAreFixedWhileBusy : Prop :=
  ∀ s t : State, s.busy = true → (∀ l rest, s.inbox ≠ .rst l :: rest) → step s = .next t → SameRequest s t

/-- In a state that meets the invariant no step is refused, and the only fault is a scheduled move its agent does not
have: a response while no request is presented or that the presented one does not permit, or a BUILD move outside BUILD or
while `rst` is asserted (log 2). -/
def Obligations.InvariantStatesStep : Prop :=
  ∀ s : State, s.Inv →
    (∃ t, step s = .next t) ∨
      (step s = .fault .noMove ∧
        ((∃ r rest, s.inbox = .respond r :: rest ∧
            (s.portRequest = none ∨ ∃ q, s.portRequest = some q ∧ permitted q.expectReply r = false)) ∨
          ∃ rest, s.inbox = .build :: rest ∧ (s.seq ≠ .build ∨ s.rst = true)))

/-- Under the agents' duties every command ends: with nothing scheduled, from any state of a run, the block is back in
IDLE within 18 steps, whatever the transport answers, having sent at most 9 frames, and DONE is set if a command ran
(R161, R162; that an empty inbox means the duty moves is log 1, that the transport always answers log 20). -/
def Obligations.EveryCommandEnds : Prop :=
  ∀ s : State, s.Inv → s.rst = false → s.inbox = [] →
    ∃ k t, k ≤ 18 ∧ core.run k s = .next t ∧ t.seq = .idle ∧ t.busy = false ∧ (s.busy = true → t.done = true) ∧
      s.sent <+: t.sent ∧ t.sent.length ≤ s.sent.length + 9

/-- Every frame that BUILD presents for a command other than RAW_FRAME decodes to a well-formed frame instruction (R65 to
R68, R118; which row names a subcommand frame is log 8). -/
def Obligations.BuiltFramesAreWellFormed : Prop :=
  ∀ s t : State, s.Inv → s.seq = .build → s.curOp ≠ 0x30#8 → buildStep s = .next t → t.seq ≠ .idle →
    ∃ i, decodeFrame t.fb = .ok i ∧ i.wf = true

/-! ### The assembly language -/

/-- The programs P1 and P4 of spec/95_test_vectors.md and the subcommand, colour and raw-frame lines of R75 expand to the
accesses that the spec gives them (R74, R75; the zeros that fill a PB word are log 18). `wait_idle` reads STATUS once, and
again exactly when BUSY is 1 in the value read; with nothing else listed it ends within 37 steps in IDLE, every read but
the last with BUSY = 1 (R75, R161; that one move of another agent stands between two reads is log 18, that the moves owed
are made log 1, that the transport answers log 20). -/
def Obligations.AssemblyExpandsAsListed : Prop :=
  assemble [.set .mode true 3, .waitIdle] = [.write 0x040 0x00000003, .write 0x000 0x00000120, .waitIdle] ∧
    assemble [.stmt (.wr .desc 0x00000001), .stmt (.wr (.pb 0) 3), .stmt (.wr .rawcfg 57), .stmt (.cmd .subcommand true),
        .stmt (.rd .status), .stmt (.wr .status 0x4), .stmt (.rd .status), .stmt (.wr .rawcfg 1),
        .stmt (.cmd .subcommand true), .waitIdle] =
      [.write 0x010 0x00000001, .write 0x040 0x00000003, .write 0x014 0x00000039, .write 0x000 0x00000106, .read 0x004,
        .write 0x004 0x00000004, .read 0x004, .write 0x014 0x00000001, .write 0x000 0x00000106, .waitIdle] ∧
    assemble [.subcmd true ⟨1, 0, 0, 0⟩ [3]] =
      [.write 0x010 0x00000001, .write 0x040 0x00000003, .write 0x014 0x00000001, .write 0x000 0x00000106] ∧
    assemble [.color 5 5 21 128, .keycolors true 120 20] =
      [.write 0x214 0x00801505, .write 0x018 0x00140078, .write 0x000 0x00000111] ∧
    assemble [.setColor false 255 0 128, .txnEnd] =
      [.write 0x040 0x008000FF, .write 0x000 0x00000025, .write 0x000 0x00000002] ∧
    assemble [.rawFrame false 0x12 0x34 60 [1, 2, 3, 4]] =
      [.write 0x040 0x04030201, .write 0x014 0x34123C04, .write 0x000 0x00000030] ∧
    (∀ (s : State) (rest : List Event), s.inbox = .waitIdle :: rest →
      ∃ t, step s = .next t ∧ SameRegisters s t ∧ t.sent = s.sent ∧ t.reads = s.reads ++ [⟨0x004, readWord 0x004 s⟩] ∧
        t.inbox = if (readWord 0x004 s).getLsbD 0 then waitBehind rest else rest) ∧
    ∀ s : State, s.Inv → s.rst = false → s.inbox = [.waitIdle] →
      ∃ k t rs, k ≤ 37 ∧ core.run k s = .next t ∧ t.inbox = [] ∧ t.seq = .idle ∧ t.busy = false ∧
        t.reads = s.reads ++ rs ++ [⟨0x004, t.statusWord⟩] ∧
        ∀ r ∈ rs, r.offset = 0x004 ∧ r.value.getLsbD 0 = true
end

