-- ==== Sys2Proof/Laws/Bits.lean ====
section
/-! SUPPORT. The bit-level helpers: bytes and halves split and joined, the fields of a request word, the areas of a frame. -/

namespace Sys2Proof

@[simp] theorem loByte_halfOfBytes (a b : Byte) : loByte (halfOfBytes a b) = a := by
  apply BitVec.eq_of_getLsbD_eq; intro i hi
  simp only [loByte, halfOfBytes, BitVec.getLsbD_append, BitVec.getLsbD_extractLsb']
  simp [hi]

@[simp] theorem hiByte_halfOfBytes (a b : Byte) : hiByte (halfOfBytes a b) = b := by
  apply BitVec.eq_of_getLsbD_eq; intro i hi
  simp only [hiByte, halfOfBytes, BitVec.getLsbD_append, BitVec.getLsbD_extractLsb']
  simp [hi]

@[simp] theorem halfOfBytes_lo_hi (v : Half) : halfOfBytes (loByte v) (hiByte v) = v := by
  apply BitVec.eq_of_getLsbD_eq; intro i hi
  simp only [loByte, hiByte, halfOfBytes, BitVec.getLsbD_append, BitVec.getLsbD_extractLsb']
  by_cases h : i < 8
  · simp [h]
  · have : i - 8 < 8 := by omega
    have e : 8 + (i - 8) = i := by omega
    simp [h, this, e]

theorem loByte_toNat (v : Half) : (loByte v).toNat = v.toNat % 256 := by simp [loByte, BitVec.extractLsb'_toNat]

theorem hiByte_toNat (v : Half) : (hiByte v).toNat = v.toNat / 256 := by
  have := v.isLt
  simp only [hiByte, BitVec.extractLsb'_toNat, Nat.shiftRight_eq_div_pow]
  omega

/-- A word rebuilt from its bytes is the word (R49). -/
@[simp] theorem wordOfBytes_bytes (v : Word) :
    wordOfBytes (v.extractLsb' 0 8) (v.extractLsb' 8 8) (v.extractLsb' 16 8) (v.extractLsb' 24 8) = v := by
  apply BitVec.eq_of_getLsbD_eq; intro i hi
  simp only [wordOfBytes, BitVec.getLsbD_append, BitVec.getLsbD_extractLsb']
  by_cases h0 : i < 8
  · simp [h0]
  · by_cases h1 : i - 8 < 8
    · have e : 8 + (i - 8) = i := by omega
      simp [h0, h1, e]
    · by_cases h2 : i - 8 - 8 < 8
      · have e : 16 + (i - 8 - 8) = i := by omega
        simp [h0, h1, h2, e]
      · have h3 : i - 8 - 8 - 8 < 8 := by omega
        have e : 24 + (i - 8 - 8 - 8) = i := by omega
        simp [h0, h1, h2, h3, e]

/-- The bytes of a word built from bytes are those bytes (R49). -/
@[simp] theorem wordBytes_wordOfBytes (b0 b1 b2 b3 : Byte) : wordBytes (wordOfBytes b0 b1 b2 b3) = [b0, b1, b2, b3] := by
  have h0 : (wordOfBytes b0 b1 b2 b3).extractLsb' 0 8 = b0 := by
    apply BitVec.eq_of_getLsbD_eq; intro i hi
    simp only [wordOfBytes, BitVec.getLsbD_append, BitVec.getLsbD_extractLsb']
    simp [hi]
  have h1 : (wordOfBytes b0 b1 b2 b3).extractLsb' 8 8 = b1 := by
    apply BitVec.eq_of_getLsbD_eq; intro i hi
    simp only [wordOfBytes, BitVec.getLsbD_append, BitVec.getLsbD_extractLsb']
    simp [hi]
  have h2 : (wordOfBytes b0 b1 b2 b3).extractLsb' 16 8 = b2 := by
    apply BitVec.eq_of_getLsbD_eq; intro i hi
    have e1 : 16 + i - 8 = 8 + i := by omega
    have n1 : ¬ 16 + i < 8 := by omega
    simp only [wordOfBytes, BitVec.getLsbD_append, BitVec.getLsbD_extractLsb', e1]
    simp [hi, n1]
  have h3 : (wordOfBytes b0 b1 b2 b3).extractLsb' 24 8 = b3 := by
    apply BitVec.eq_of_getLsbD_eq; intro i hi
    have e1 : 24 + i - 8 = 16 + i := by omega
    have e2 : 16 + i - 8 = 8 + i := by omega
    have n1 : ¬ 24 + i < 8 := by omega
    have n2 : ¬ 16 + i < 8 := by omega
    simp only [wordOfBytes, BitVec.getLsbD_append, BitVec.getLsbD_extractLsb', e1, e2]
    simp [hi, n1, n2]
  rw [wordBytes, h0, h1, h2, h3]

@[simp] theorem wordOp_requestWord (op : Byte) (w : Bool) : wordOp (requestWord op w) = op := by
  apply BitVec.eq_of_getLsbD_eq; intro i hi
  simp only [wordOp, requestWord, BitVec.getLsbD_append, BitVec.getLsbD_extractLsb']
  simp [hi]

@[simp] theorem wordWrap_requestWord (op : Byte) (w : Bool) : wordWrap (requestWord op w) = w := by
  simp only [wordWrap, requestWord, BitVec.getLsbD_append]
  simp

@[simp] theorem wordReserved_requestWord (op : Byte) (w : Bool) : wordReserved (requestWord op w) = 0 := by
  apply BitVec.eq_of_getLsbD_eq; intro i hi
  have h1 : ¬ (9 + i < 8) := by omega
  have h2 : ¬ (9 + i - 8 < 1) := by omega
  simp only [wordReserved, requestWord, BitVec.getLsbD_append, BitVec.getLsbD_extractLsb', h1, h2]
  simp

/-- A request word is its three fields (R56). -/
theorem requestWord_fields (v : Word) (h : wordReserved v = 0) : requestWord (wordOp v) (wordWrap v) = v := by
  apply BitVec.eq_of_getLsbD_eq; intro i hi
  simp only [requestWord, wordOp, wordWrap, BitVec.getLsbD_append, BitVec.getLsbD_extractLsb']
  by_cases h0 : i < 8
  · simp [h0]
  · by_cases h1 : i - 8 < 1
    · have e : i = 8 := by omega
      subst e; simp
    · have hb := congrArg (fun x => BitVec.getLsbD x (i - 9)) h
      have e : 9 + (i - 9) = i := by omega
      have l : i - 9 < 23 := by omega
      simp only [wordReserved, BitVec.getLsbD_extractLsb', e, l] at hb
      simp at hb
      simp [h0, h1, hb]

/-! ### Frames by their bytes -/

theorem frame64_get (b0 b1 b2 b3 b4 b5 b6 b7 : Byte) (d : DataArea) (i : Nat) (h : i < 64) :
    (frame64 b0 b1 b2 b3 b4 b5 b6 b7 d)[i] =
      if h8 : i < 8 then [b0, b1, b2, b3, b4, b5, b6, b7][i]'(by simpa using h8) else d[i - 8]'(by omega) := by
  unfold frame64
  rw [Vector.getElem_append]
  split
  · simp only [Vector.getElem_mk, List.getElem_toArray]
  · rfl

@[simp] theorem dataArea_get (bs : List Byte) (i : Nat) (h : i < 56) : (dataArea bs)[i] = bs.getD i 0 := by
  simp [dataArea]

@[simp] theorem frameData_get (f : Frame) (i : Nat) (h : i < 56) : (frameData f)[i] = f[i + 8] := by
  simp [frameData]

@[simp] theorem frameData_frame64 (b0 b1 b2 b3 b4 b5 b6 b7 : Byte) (d : DataArea) :
    frameData (frame64 b0 b1 b2 b3 b4 b5 b6 b7 d) = d := by
  apply Vector.ext; intro i hi
  rw [frameData_get, frame64_get, dif_neg (by omega)]
  simp

/-- A frame is its first eight bytes and its data area (R60). -/
theorem frame64_bytes (f : Frame) : frame64 f[0] f[1] f[2] f[3] f[4] f[5] f[6] f[7] (frameData f) = f := by
  apply Vector.ext; intro i hi
  rw [frame64_get]
  split
  · rename_i h8
    have : i = 0 ∨ i = 1 ∨ i = 2 ∨ i = 3 ∨ i = 4 ∨ i = 5 ∨ i = 6 ∨ i = 7 := by omega
    rcases this with rfl | rfl | rfl | rfl | rfl | rfl | rfl | rfl <;> rfl
  · rename_i h8
    rw [frameData_get]; congr 1; omega

theorem allZero_iff (bs : List Byte) : allZero bs = true ↔ ∀ b ∈ bs, b = 0 := by
  simp [allZero]

end Sys2Proof
end

