-- ==== Sys2Proof/Laws/Codec.lean ====
section
/-! SUPPORT. Decoding against encoding: what the decoder gives on the bytes, the word and the frame of each encoding. -/

namespace Sys2Proof

/-! ### The decoder by the length of its input -/

theorem decode_wordBytes (v : Word) : decode (wordBytes v) = decodeRequest v := by
  simp only [wordBytes, decode, wordOfBytes_bytes]

theorem decode_frame (f : Frame) : decode f.toList = decodeFrame f := by
  unfold decode
  split
  · rename_i h; exact absurd (congrArg List.length h) (by simp)
  · rw [dif_pos (by simp)]; rfl

/-- Decoding an encoded instruction, by its kind. -/
theorem decode_encode_eq (i : Instr) :
    decode (encode i) =
      match i.asRequest, i.asFrame with
      | some w, _ => decodeRequest w
      | none, some f => decodeFrame f
      | none, none => .error .badLength := by
  unfold encode
  cases i.asRequest <;> cases i.asFrame <;> simp only [decode_wordBytes, decode_frame]
  rfl

/-! ### Request words -/

/-- A request word built from its fields decodes by its OP (R57, R58). -/
theorem decodeRequest_requestWord (op : Byte) (w : Bool) :
    decodeRequest (requestWord op w) =
      if op = Op.txnBegin then (if w then .error .wrapNotAllowed else .ok .txnBegin)
      else if op = Op.txnEnd then (if w then .error .wrapNotAllowed else .ok .txnEnd)
      else if op = Op.subcommand then .ok (.subcommand w)
      else if op = Op.keycolors then .ok (.keycolors w)
      else if op = Op.setMode then .ok (.setMode w)
      else if op = Op.setBrightness then .ok (.setBrightness w)
      else if op = Op.setDelay then .ok (.setDelay w)
      else if op = Op.setDirection then .ok (.setDirection w)
      else if op = Op.setColorful then .ok (.setColorful w)
      else if op = Op.setColor then .ok (.setColor w)
      else if op = Op.setRate then .ok (.setRate w)
      else if op = Op.rawFrame then .ok (.rawFrame w)
      else .error .unknownOp := by
  simp only [decodeRequest, wordReserved_requestWord, ne_eq, not_true_eq_false, if_false, wordOp_requestWord,
    wordWrap_requestWord]

theorem of_ite_eq {α : Type} {c : Prop} [Decidable c] {a b x : α} (h : (if c then a else b) = x) :
    (c ∧ a = x) ∨ (¬ c ∧ b = x) := by
  by_cases hc : c
  · rw [if_pos hc] at h; exact .inl ⟨hc, h⟩
  · rw [if_neg hc] at h; exact .inr ⟨hc, h⟩

/-- A word that decodes is the request word of its instruction (R56). -/
theorem decodeRequest_ok {v : Word} {i : Instr} (h : decodeRequest v = .ok i) : i.asRequest = some v := by
  by_cases hr : wordReserved v = 0
  · rw [← requestWord_fields v hr, decodeRequest_requestWord] at h
    rw [← requestWord_fields v hr]
    generalize wordOp v = op at h ⊢
    generalize wordWrap v = w at h ⊢
    rcases of_ite_eq h with ⟨h1, h⟩ | ⟨-, h⟩
    · subst h1; cases w <;> cases h; rfl
    rcases of_ite_eq h with ⟨h1, h⟩ | ⟨-, h⟩
    · subst h1; cases w <;> cases h; rfl
    rcases of_ite_eq h with ⟨h1, h⟩ | ⟨-, h⟩
    · subst h1; cases h; rfl
    rcases of_ite_eq h with ⟨h1, h⟩ | ⟨-, h⟩
    · subst h1; cases h; rfl
    rcases of_ite_eq h with ⟨h1, h⟩ | ⟨-, h⟩
    · subst h1; cases h; rfl
    rcases of_ite_eq h with ⟨h1, h⟩ | ⟨-, h⟩
    · subst h1; cases h; rfl
    rcases of_ite_eq h with ⟨h1, h⟩ | ⟨-, h⟩
    · subst h1; cases h; rfl
    rcases of_ite_eq h with ⟨h1, h⟩ | ⟨-, h⟩
    · subst h1; cases h; rfl
    rcases of_ite_eq h with ⟨h1, h⟩ | ⟨-, h⟩
    · subst h1; cases h; rfl
    rcases of_ite_eq h with ⟨h1, h⟩ | ⟨-, h⟩
    · subst h1; cases h; rfl
    rcases of_ite_eq h with ⟨h1, h⟩ | ⟨-, h⟩
    · subst h1; cases h; rfl
    rcases of_ite_eq h with ⟨h1, h⟩ | ⟨-, h⟩
    · subst h1; cases h; rfl
    cases h
  · rw [decodeRequest, if_pos hr] at h; cases h

/-! ### Frames -/

theorem encSubcommand_get (ck : Half) (d : Descriptor) (a : DataArea) (i : Nat) (h : i < 64) :
    (encSubcommand ck d a)[i] =
      if h8 : i < 8 then [0#8, loByte ck, hiByte ck, 6#8, d.d0, d.d1, d.d2, d.d3][i]'(by simpa using h8)
      else a[i - 8]'(by omega) := by
  rw [encSubcommand, frame64_get]

theorem encKeycolors_get (ck : Half) (n : Byte) (o : Half) (d : DataArea) (i : Nat) (h : i < 64) :
    (encKeycolors ck n o d)[i] =
      if h8 : i < 8 then [4#8, loByte ck, hiByte ck, 0x11#8, n, loByte o, hiByte o, 0#8][i]'(by simpa using h8)
      else d[i - 8]'(by omega) := by
  rw [encKeycolors, frame64_get]; rfl

theorem encStart_command : encStart[3] = 1#8 := by decide
theorem encEnd_command : encEnd[3] = 2#8 := by decide

theorem encSubcommand_ne_start (ck : Half) (d : Descriptor) (a : DataArea) : encSubcommand ck d a ≠ encStart := by
  intro h; have := congrArg (fun f : Frame => f[3]) h
  simp [encSubcommand_get, encStart_command] at this

theorem encSubcommand_ne_end (ck : Half) (d : Descriptor) (a : DataArea) : encSubcommand ck d a ≠ encEnd := by
  intro h; have := congrArg (fun f : Frame => f[3]) h
  simp [encSubcommand_get, encEnd_command] at this

theorem encKeycolors_ne_start (ck : Half) (n : Byte) (o : Half) (d : DataArea) : encKeycolors ck n o d ≠ encStart := by
  intro h; have := congrArg (fun f : Frame => f[3]) h
  simp [encKeycolors_get, encStart_command] at this

theorem encKeycolors_ne_end (ck : Half) (n : Byte) (o : Half) (d : DataArea) : encKeycolors ck n o d ≠ encEnd := by
  intro h; have := congrArg (fun f : Frame => f[3]) h
  simp [encKeycolors_get, encEnd_command] at this

@[simp] theorem frameData_encSubcommand (ck : Half) (d : Descriptor) (a : DataArea) :
    frameData (encSubcommand ck d a) = a := by simp [encSubcommand]

@[simp] theorem frameData_encKeycolors (ck : Half) (n : Byte) (o : Half) (d : DataArea) :
    frameData (encKeycolors ck n o d) = d := by simp [encKeycolors]

@[simp] theorem decodeFrame_start : decodeFrame encStart = .ok .frameStart := by simp [decodeFrame]

@[simp] theorem decodeFrame_end : decodeFrame encEnd = .ok .frameEnd := by
  have : encEnd ≠ encStart := by
    intro h; have := congrArg (fun f : Frame => f[3]) h
    simp only [encStart_command, encEnd_command] at this; exact absurd this (by decide)
  simp [decodeFrame, this]

@[simp] theorem decodeFrame_encSubcommand (ck : Half) (d : Descriptor) (a : DataArea) :
    decodeFrame (encSubcommand ck d a) = .ok (decodeSubcommand ck d a) := by
  rw [decodeFrame, if_neg (encSubcommand_ne_start _ _ _), if_neg (encSubcommand_ne_end _ _ _),
    if_pos (by constructor <;> simp [encSubcommand_get])]
  simp [encSubcommand_get, frameChecksumField]

@[simp] theorem decodeFrame_encKeycolors (ck : Half) (n : Byte) (o : Half) (d : DataArea) :
    decodeFrame (encKeycolors ck n o d) = .ok (.frameKeycolors ck n o d) := by
  rw [decodeFrame, if_neg (encKeycolors_ne_start _ _ _ _), if_neg (encKeycolors_ne_end _ _ _ _),
    if_neg (by simp [encKeycolors_get]), if_pos (by refine ⟨?_, ?_, ?_⟩ <;> simp [encKeycolors_get])]
  simp [encKeycolors_get, frameChecksumField]

/-- A data area is zero after its bytes (R64). -/
theorem zeros_dataArea (bs : List Byte) (n : Nat) (h : bs.length ≤ n) :
    allZero ((dataArea bs).toList.drop n) = true := by
  rw [allZero_iff]; intro b hb
  obtain ⟨k, hk, rfl⟩ := List.getElem_of_mem hb
  simp at hk
  rw [List.getElem_drop, Vector.getElem_toList, dataArea_get, List.getD_eq_getElem?_getD,
    List.getElem?_eq_none (by omega)]
  rfl

/-- A data area that is zero from its n-th byte on is its first n bytes and zeros. -/
theorem dataArea_of_zeros (a : DataArea) (n : Nat) (h : allZero (a.toList.drop n) = true) :
    dataArea (a.toList.take n) = a := by
  rw [allZero_iff] at h
  apply Vector.ext; intro i hi
  rw [dataArea_get, List.getD_eq_getElem?_getD]
  by_cases hn : i < n
  · rw [List.getElem?_take_of_lt hn]; simp [hi]
  · rw [List.getElem?_eq_none (by simp; omega)]
    have := h a[i] (by rw [List.mem_iff_getElem]; exact ⟨i - n, by simp; omega, by simp; congr 1; omega⟩)
    simp [this]

/-- A subcommand frame that no named row describes decodes as the general row (log 8). -/
theorem decodeSubcommand_general {d : Descriptor} {a : DataArea} (h : isNamed d a = false) (ck : Half) :
    decodeSubcommand ck d a = .frameSubcommand ck d a := by
  simp only [isNamed, namedDescriptors, List.any_cons, List.any_nil, Bool.or_false, Bool.or_eq_false_iff] at h
  obtain ⟨h1, h2, h3, h4, h5, h6, h7⟩ := h
  rw [Bool.and_comm] at h1 h2 h3 h4 h5 h6 h7
  simp only [decodeSubcommand, descMode, descBrightness, descDelay, descDirection, descColorful, descColor, descRate,
    h1, h2, h3, h4, h5, h6, h7]
  simp

/-- A subcommand frame that a named row describes does not decode as the general row (log 8). -/
theorem decodeSubcommand_named {d : Descriptor} {a : DataArea} (h : isNamed d a = true) (ck : Half) :
    decodeSubcommand ck d a ≠ .frameSubcommand ck d a := by
  simp only [isNamed, namedDescriptors, List.any_cons, List.any_nil, Bool.or_false] at h
  simp only [decodeSubcommand, Bool.and_comm (allZero _), descMode, descBrightness, descDelay, descDirection,
    descColorful, descColor, descRate]
  generalize (d == _ && allZero _) = c1 at h ⊢
  generalize (d == _ && allZero _) = c2 at h ⊢
  generalize (d == _ && allZero _) = c3 at h ⊢
  generalize (d == _ && allZero _) = c4 at h ⊢
  generalize (d == _ && allZero _) = c5 at h ⊢
  generalize (d == _ && allZero _) = c6 at h ⊢
  generalize (d == _ && allZero _) = c7 at h ⊢
  cases c1 <;> cases c2 <;> cases c3 <;> cases c4 <;> cases c5 <;> cases c6 <;> cases c7 <;> simp at h ⊢

theorem dataArea_one (a : DataArea) (h : allZero (a.toList.drop 1) = true) : dataArea [a[0]] = a := by
  have := dataArea_of_zeros a 1 h
  rwa [List.take_one, List.head?_eq_getElem?, Vector.getElem?_toList, Vector.getElem?_eq_getElem (by omega)] at this

theorem dataArea_three (a : DataArea) (h : allZero (a.toList.drop 3) = true) : dataArea [a[0], a[1], a[2]] = a := by
  have := dataArea_of_zeros a 3 h
  have e : a.toList.take 3 = [a[0], a[1], a[2]] := by
    apply List.ext_getElem
    · simp
    · intro i h1 h2
      simp only [List.length_take, Vector.length_toList] at h1
      rw [List.getElem_take, Vector.getElem_toList]
      have : i = 0 ∨ i = 1 ∨ i = 2 := by omega
      rcases this with rfl | rfl | rfl <;> rfl
  rwa [e] at this

/-- A subcommand row carries the descriptor, the argument and the checksum it was read from. -/
theorem decodeSubcommand_asFrame (ck : Half) (d : Descriptor) (a : DataArea) :
    (decodeSubcommand ck d a).asFrame = some (encSubcommand ck d a) := by
  unfold decodeSubcommand
  split_ifs with h1 h2 h3 h4 h5 h6 h7
  · rw [Bool.and_eq_true, beq_iff_eq] at h1; rw [h1.2]; simp only [Instr.asFrame, dataArea_one a h1.1]
  · rw [Bool.and_eq_true, beq_iff_eq] at h2; rw [h2.2]; simp only [Instr.asFrame, dataArea_one a h2.1]
  · rw [Bool.and_eq_true, beq_iff_eq] at h3; rw [h3.2]; simp only [Instr.asFrame, dataArea_one a h3.1]
  · rw [Bool.and_eq_true, beq_iff_eq] at h4; rw [h4.2]; simp only [Instr.asFrame, dataArea_one a h4.1]
  · rw [Bool.and_eq_true, beq_iff_eq] at h5; rw [h5.2]; simp only [Instr.asFrame, dataArea_one a h5.1]
  · rw [Bool.and_eq_true, beq_iff_eq] at h6; rw [h6.2]; simp only [Instr.asFrame, dataArea_three a h6.1]
  · rw [Bool.and_eq_true, beq_iff_eq] at h7; rw [h7.2]; simp only [Instr.asFrame, dataArea_one a h7.1]
  · rfl

/-- A subcommand frame is its checksum field, its descriptor and its argument area (R67). -/
theorem encSubcommand_fields (f : Frame) (h0 : f[0] = Config.ctrlTag) (h3 : f[3] = Config.cmdSubcommand) :
    encSubcommand (frameChecksumField f) ⟨f[4], f[5], f[6], f[7]⟩ (frameData f) = f := by
  conv => rhs; rw [← frame64_bytes f]
  rw [encSubcommand, frameChecksumField, loByte_halfOfBytes, hiByte_halfOfBytes, h0, h3]

/-- A key-color frame is its checksum field, count, offset and data (R68). -/
theorem encKeycolors_fields (f : Frame) (h0 : f[0] = Config.kcTag) (h3 : f[3] = Config.cmdKeycolors) (h7 : f[7] = 0) :
    encKeycolors (frameChecksumField f) f[4] (halfOfBytes f[5] f[6]) (frameData f) = f := by
  conv => rhs; rw [← frame64_bytes f]
  rw [encKeycolors, frameChecksumField, loByte_halfOfBytes, hiByte_halfOfBytes, loByte_halfOfBytes, hiByte_halfOfBytes,
    h0, h3, h7]

/-- A frame that decodes is the frame of its instruction. -/
theorem decodeFrame_ok {f : Frame} {i : Instr} (h : decodeFrame f = .ok i) : i.asFrame = some f := by
  unfold decodeFrame at h
  rcases of_ite_eq h with ⟨h1, h⟩ | ⟨-, h⟩
  · rw [← Except.ok.inj h, h1]; rfl
  rcases of_ite_eq h with ⟨h1, h⟩ | ⟨-, h⟩
  · rw [← Except.ok.inj h, h1]; rfl
  rcases of_ite_eq h with ⟨h1, h⟩ | ⟨-, h⟩
  · rw [← Except.ok.inj h, decodeSubcommand_asFrame, encSubcommand_fields f h1.1 h1.2]
  rcases of_ite_eq h with ⟨h1, h⟩ | ⟨-, h⟩
  · rw [← Except.ok.inj h, Instr.asFrame, encKeycolors_fields f h1.1 h1.2.1 h1.2.2]
  · cases h

/-- A frame instruction is no request word. -/
theorem asRequest_of_asFrame {i : Instr} {f : Frame} (h : i.asFrame = some f) : i.asRequest = none := by
  cases i <;> first | rfl | (simp [Instr.asFrame] at h)

end Sys2Proof
end

