-- ==== Sys2Proof/Laws/Frames.lean ====
section
/-! SUPPORT. The frame functions by their bytes, and the checksum as a sum: one lemma per function, which later proofs cite
instead of unfolding it. -/

namespace Sys2Proof.Machine

/-! ### Copying and building -/

/-- Byte i after a copy: the copied byte inside the copied range, the old byte outside it. -/
theorem copyBytes_get (f : Frame) (o : Nat) (bs : List Byte) (i : Nat) (h : i < 64) :
    (copyBytes f o bs)[i] = if h2 : o ≤ i ∧ i < o + bs.length then bs[i - o]'(by omega) else f[i] := by
  induction bs generalizing f o with
  | nil => rw [copyBytes, dif_neg]; simp
  | cons b bs ih =>
    rw [copyBytes, ih]
    by_cases h1 : i = o
    · subst h1
      rw [dif_neg (by omega), dif_pos (by simp)]
      simp
    · by_cases h2 : o + 1 ≤ i ∧ i < o + 1 + bs.length
      · rw [dif_pos h2, dif_pos (by simp only [List.length_cons]; omega)]
        have e : i - o = (i - (o + 1)) + 1 := by omega
        simp [e]
      · rw [dif_neg h2, dif_neg (by simp only [List.length_cons]; omega),
          Vector.getElem_setIfInBounds_ne h (by omega)]

@[simp] theorem zero64_get (i : Nat) (h : i < 64) : zero64[i] = 0 := by simp [zero64]

/-- Byte i of a control frame (R78, R79). -/
theorem controlFrame_get (tag c : Byte) (p : List Byte) (off i : Nat) (h : i < 64) :
    (controlFrame tag c p off)[i] =
      if h2 : off ≤ i ∧ i < off + p.length then p[i - off]'(by omega)
      else if i = 0 then tag else if i = 3 then c else 0 := by
  rw [controlFrame, copyBytes_get]
  by_cases h2 : off ≤ i ∧ i < off + p.length
  · rw [dif_pos h2, dif_pos h2]
  · rw [dif_neg h2, dif_neg h2, Vector.getElem_set, Vector.getElem_set, zero64_get]
    by_cases h3 : i = 3
    · subst h3; simp
    · by_cases h0 : i = 0
      · subst h0; simp
      · rw [if_neg (by omega), if_neg (by omega), if_neg h0, if_neg h3]

/-! ### The checksum -/

theorem foldl_accStep (bs : List Byte) (a : Half) :
    bs.foldl accStep a = a + BitVec.ofNat 16 ((bs.map BitVec.toNat).sum) := by
  induction bs generalizing a with
  | nil => simp
  | cons b bs ih =>
    rw [List.foldl_cons, ih]
    apply BitVec.eq_of_toNat_eq
    simp [accStep, BitVec.toNat_add, List.sum_cons]
    omega

/-- ACC after a frame is the sum of bytes 3 to 63 modulo 2^16 (R94, R95). -/
theorem accumulate_eq (f : Frame) : accumulate f = BitVec.ofNat 16 (byteSum f) := by
  rw [accumulate, foldl_accStep]; simp [byteSum]

theorem accumulate_toNat (f : Frame) : (accumulate f).toNat = byteSum f % 65536 := by
  rw [accumulate_eq]; simp

theorem sealFrame_get (f : Frame) (i : Nat) (h : i < 64) :
    (sealFrame f)[i] =
      if i = 1 then loByte (accumulate f) else if i = 2 then hiByte (accumulate f) else f[i] := by
  rw [sealFrame, Vector.getElem_set, Vector.getElem_set]
  simp only [checksum]
  by_cases h1 : i = 1
  · subst h1; simp
  · by_cases h2 : i = 2
    · subst h2; simp
    · rw [if_neg (by omega), if_neg (by omega), if_neg h1, if_neg h2]

/-- Frames that agree from byte 3 on have the same sum (R94, R100). -/
theorem byteSum_congr (f g : Frame) (h : ∀ i (_ : 3 ≤ i) (hi : i < 64), f[i] = g[i]) : byteSum f = byteSum g := by
  have : f.toList.drop 3 = g.toList.drop 3 := by
    apply List.ext_getElem
    · simp
    · intro i h1 h2
      simp only [List.length_drop, Vector.length_toList] at h1
      rw [List.getElem_drop, List.getElem_drop, Vector.getElem_toList, Vector.getElem_toList]
      exact h (3 + i) (by omega) (by omega)
  simp [byteSum, this]

/-- Sealing a frame leaves its sum as it was: bytes 1 and 2 are outside it (R94, R96). -/
@[simp] theorem byteSum_sealFrame (f : Frame) : byteSum (sealFrame f) = byteSum f := by
  apply byteSum_congr; intro i h3 hi
  rw [sealFrame_get, if_neg (by omega), if_neg (by omega)]

@[simp] theorem accumulate_sealFrame (f : Frame) : accumulate (sealFrame f) = accumulate f := by
  rw [accumulate_eq, accumulate_eq, byteSum_sealFrame]

/-- A sealed frame is sealed (R62, R96). -/
theorem sealed_sealFrame (f : Frame) : Sealed (sealFrame f) := by
  unfold Sealed
  rw [byteSum_sealFrame, sealFrame_get f 1 (by omega), sealFrame_get f 2 (by omega)]
  rw [if_pos rfl, if_neg (by omega), if_pos rfl, loByte_toNat, hiByte_toNat, accumulate_toNat]
  omega

/-- A frame is sealed exactly when sealing it changes nothing. -/
theorem sealed_iff (f : Frame) : Sealed f ↔ sealFrame f = f := by
  constructor
  · intro h
    have hs : f[1].toNat + 256 * f[2].toNat = (accumulate f).toNat := by rw [accumulate_toNat]; exact h
    have b1 := f[1].isLt
    have b2 := f[2].isLt
    apply Vector.ext; intro i hi
    rw [sealFrame_get]
    by_cases h1 : i = 1
    · subst h1; rw [if_pos rfl]; apply BitVec.eq_of_toNat_eq; rw [loByte_toNat]; omega
    · by_cases h2 : i = 2
      · subst h2; rw [if_neg h1, if_pos rfl]; apply BitVec.eq_of_toNat_eq; rw [hiByte_toNat]; omega
      · rw [if_neg h1, if_neg h2]
  · intro h; rw [← h]; exact sealed_sealFrame f

/-- The all-zero frame of reset is sealed. -/
theorem sealed_zero : Sealed (Vector.replicate 64 0#8) := by unfold Sealed; decide +kernel

end Sys2Proof.Machine
end

