-- ==== Sys2Proof/Laws/State.lean ====
section
/-! SUPPORT. The fields of the state after each shared operation: one lemma per field per operation, true by rfl, so that
no later proof unfolds a record update. -/

namespace Sys2Proof.Machine

/-! ### Sealing a frame into FB writes FB, ACC and LAST_CKSUM (R95 to R97). -/

@[simp] theorem loadFrame_cmd (f : Frame) (s : State) : (loadFrame f s).cmd = s.cmd := rfl
@[simp] theorem loadFrame_busy (f : Frame) (s : State) : (loadFrame f s).busy = s.busy := rfl
@[simp] theorem loadFrame_txnOpen (f : Frame) (s : State) : (loadFrame f s).txnOpen = s.txnOpen := rfl
@[simp] theorem loadFrame_done (f : Frame) (s : State) : (loadFrame f s).done = s.done := rfl
@[simp] theorem loadFrame_ovr (f : Frame) (s : State) : (loadFrame f s).ovr = s.ovr := rfl
@[simp] theorem loadFrame_err (f : Frame) (s : State) : (loadFrame f s).err = s.err := rfl
@[simp] theorem loadFrame_detail (f : Frame) (s : State) : (loadFrame f s).detail = s.detail := rfl
@[simp] theorem loadFrame_bodyAcked (f : Frame) (s : State) : (loadFrame f s).bodyAcked = s.bodyAcked := rfl
@[simp] theorem loadFrame_irqEn (f : Frame) (s : State) : (loadFrame f s).irqEn = s.irqEn := rfl
@[simp] theorem loadFrame_timeoutMs (f : Frame) (s : State) : (loadFrame f s).timeoutMs = s.timeoutMs := rfl
@[simp] theorem loadFrame_desc (f : Frame) (s : State) : (loadFrame f s).desc = s.desc := rfl
@[simp] theorem loadFrame_rawcfg (f : Frame) (s : State) : (loadFrame f s).rawcfg = s.rawcfg := rfl
@[simp] theorem loadFrame_kcRange (f : Frame) (s : State) : (loadFrame f s).kcRange = s.kcRange := rfl
@[simp] theorem loadFrame_seq (f : Frame) (s : State) : (loadFrame f s).seq = s.seq := rfl
@[simp] theorem loadFrame_lastCksum (f : Frame) (s : State) : (loadFrame f s).lastCksum = accumulate f := rfl
@[simp] theorem loadFrame_curOp (f : Frame) (s : State) : (loadFrame f s).curOp = s.curOp := rfl
@[simp] theorem loadFrame_curWrap (f : Frame) (s : State) : (loadFrame f s).curWrap = s.curWrap := rfl
@[simp] theorem loadFrame_bodyPend (f : Frame) (s : State) : (loadFrame f s).bodyPend = s.bodyPend := rfl
@[simp] theorem loadFrame_acc (f : Frame) (s : State) : (loadFrame f s).acc = accumulate f := rfl
@[simp] theorem loadFrame_kcBase (f : Frame) (s : State) : (loadFrame f s).kcBase = s.kcBase := rfl
@[simp] theorem loadFrame_kcPos (f : Frame) (s : State) : (loadFrame f s).kcPos = s.kcPos := rfl
@[simp] theorem loadFrame_kcRem (f : Frame) (s : State) : (loadFrame f s).kcRem = s.kcRem := rfl
@[simp] theorem loadFrame_kcN (f : Frame) (s : State) : (loadFrame f s).kcN = s.kcN := rfl
@[simp] theorem loadFrame_pb (f : Frame) (s : State) : (loadFrame f s).pb = s.pb := rfl
@[simp] theorem loadFrame_fb (f : Frame) (s : State) : (loadFrame f s).fb = sealFrame f := rfl
@[simp] theorem loadFrame_cb (f : Frame) (s : State) : (loadFrame f s).cb = s.cb := rfl
@[simp] theorem loadFrame_faultMarks (f : Frame) (s : State) : (loadFrame f s).faultMarks = s.faultMarks := rfl
@[simp] theorem loadFrame_rst (f : Frame) (s : State) : (loadFrame f s).rst = s.rst := rfl
@[simp] theorem loadFrame_inbox (f : Frame) (s : State) : (loadFrame f s).inbox = s.inbox := rfl
@[simp] theorem loadFrame_draws (f : Frame) (s : State) : (loadFrame f s).draws = s.draws := rfl
@[simp] theorem loadFrame_sent (f : Frame) (s : State) : (loadFrame f s).sent = s.sent := rfl
@[simp] theorem loadFrame_reads (f : Frame) (s : State) : (loadFrame f s).reads = s.reads := rfl

/-! ### Presenting START (R116). -/

@[simp] theorem presentStart_cmd (s : State) : (presentStart s).cmd = s.cmd := rfl
@[simp] theorem presentStart_busy (s : State) : (presentStart s).busy = s.busy := rfl
@[simp] theorem presentStart_txnOpen (s : State) : (presentStart s).txnOpen = s.txnOpen := rfl
@[simp] theorem presentStart_done (s : State) : (presentStart s).done = s.done := rfl
@[simp] theorem presentStart_ovr (s : State) : (presentStart s).ovr = s.ovr := rfl
@[simp] theorem presentStart_err (s : State) : (presentStart s).err = s.err := rfl
@[simp] theorem presentStart_detail (s : State) : (presentStart s).detail = s.detail := rfl
@[simp] theorem presentStart_bodyAcked (s : State) : (presentStart s).bodyAcked = s.bodyAcked := rfl
@[simp] theorem presentStart_irqEn (s : State) : (presentStart s).irqEn = s.irqEn := rfl
@[simp] theorem presentStart_timeoutMs (s : State) : (presentStart s).timeoutMs = s.timeoutMs := rfl
@[simp] theorem presentStart_desc (s : State) : (presentStart s).desc = s.desc := rfl
@[simp] theorem presentStart_rawcfg (s : State) : (presentStart s).rawcfg = s.rawcfg := rfl
@[simp] theorem presentStart_kcRange (s : State) : (presentStart s).kcRange = s.kcRange := rfl
@[simp] theorem presentStart_seq (s : State) : (presentStart s).seq = .sendStart := rfl
@[simp] theorem presentStart_lastCksum (s : State) : (presentStart s).lastCksum = accumulate (ctrlFrame Config.cmdStart) := rfl
@[simp] theorem presentStart_curOp (s : State) : (presentStart s).curOp = s.curOp := rfl
@[simp] theorem presentStart_curWrap (s : State) : (presentStart s).curWrap = s.curWrap := rfl
@[simp] theorem presentStart_bodyPend (s : State) : (presentStart s).bodyPend = s.bodyPend := rfl
@[simp] theorem presentStart_acc (s : State) : (presentStart s).acc = accumulate (ctrlFrame Config.cmdStart) := rfl
@[simp] theorem presentStart_kcBase (s : State) : (presentStart s).kcBase = s.kcBase := rfl
@[simp] theorem presentStart_kcPos (s : State) : (presentStart s).kcPos = s.kcPos := rfl
@[simp] theorem presentStart_kcRem (s : State) : (presentStart s).kcRem = s.kcRem := rfl
@[simp] theorem presentStart_kcN (s : State) : (presentStart s).kcN = s.kcN := rfl
@[simp] theorem presentStart_pb (s : State) : (presentStart s).pb = s.pb := rfl
@[simp] theorem presentStart_fb (s : State) : (presentStart s).fb = sealFrame (ctrlFrame Config.cmdStart) := rfl
@[simp] theorem presentStart_cb (s : State) : (presentStart s).cb = s.cb := rfl
@[simp] theorem presentStart_faultMarks (s : State) : (presentStart s).faultMarks = s.faultMarks := rfl
@[simp] theorem presentStart_rst (s : State) : (presentStart s).rst = s.rst := rfl
@[simp] theorem presentStart_inbox (s : State) : (presentStart s).inbox = s.inbox := rfl
@[simp] theorem presentStart_draws (s : State) : (presentStart s).draws = s.draws := rfl
@[simp] theorem presentStart_sent (s : State) : (presentStart s).sent = s.sent := rfl
@[simp] theorem presentStart_reads (s : State) : (presentStart s).reads = s.reads := rfl

/-! ### Presenting END (R116, R118). -/

@[simp] theorem presentEnd_cmd (s : State) : (presentEnd s).cmd = s.cmd := rfl
@[simp] theorem presentEnd_busy (s : State) : (presentEnd s).busy = s.busy := rfl
@[simp] theorem presentEnd_txnOpen (s : State) : (presentEnd s).txnOpen = s.txnOpen := rfl
@[simp] theorem presentEnd_done (s : State) : (presentEnd s).done = s.done := rfl
@[simp] theorem presentEnd_ovr (s : State) : (presentEnd s).ovr = s.ovr := rfl
@[simp] theorem presentEnd_err (s : State) : (presentEnd s).err = s.err := rfl
@[simp] theorem presentEnd_detail (s : State) : (presentEnd s).detail = s.detail := rfl
@[simp] theorem presentEnd_bodyAcked (s : State) : (presentEnd s).bodyAcked = s.bodyAcked := rfl
@[simp] theorem presentEnd_irqEn (s : State) : (presentEnd s).irqEn = s.irqEn := rfl
@[simp] theorem presentEnd_timeoutMs (s : State) : (presentEnd s).timeoutMs = s.timeoutMs := rfl
@[simp] theorem presentEnd_desc (s : State) : (presentEnd s).desc = s.desc := rfl
@[simp] theorem presentEnd_rawcfg (s : State) : (presentEnd s).rawcfg = s.rawcfg := rfl
@[simp] theorem presentEnd_kcRange (s : State) : (presentEnd s).kcRange = s.kcRange := rfl
@[simp] theorem presentEnd_seq (s : State) : (presentEnd s).seq = .sendEnd := rfl
@[simp] theorem presentEnd_lastCksum (s : State) : (presentEnd s).lastCksum = accumulate (ctrlFrame Config.cmdEnd) := rfl
@[simp] theorem presentEnd_curOp (s : State) : (presentEnd s).curOp = s.curOp := rfl
@[simp] theorem presentEnd_curWrap (s : State) : (presentEnd s).curWrap = s.curWrap := rfl
@[simp] theorem presentEnd_bodyPend (s : State) : (presentEnd s).bodyPend = s.bodyPend := rfl
@[simp] theorem presentEnd_acc (s : State) : (presentEnd s).acc = accumulate (ctrlFrame Config.cmdEnd) := rfl
@[simp] theorem presentEnd_kcBase (s : State) : (presentEnd s).kcBase = s.kcBase := rfl
@[simp] theorem presentEnd_kcPos (s : State) : (presentEnd s).kcPos = s.kcPos := rfl
@[simp] theorem presentEnd_kcRem (s : State) : (presentEnd s).kcRem = s.kcRem := rfl
@[simp] theorem presentEnd_kcN (s : State) : (presentEnd s).kcN = s.kcN := rfl
@[simp] theorem presentEnd_pb (s : State) : (presentEnd s).pb = s.pb := rfl
@[simp] theorem presentEnd_fb (s : State) : (presentEnd s).fb = sealFrame (ctrlFrame Config.cmdEnd) := rfl
@[simp] theorem presentEnd_cb (s : State) : (presentEnd s).cb = s.cb := rfl
@[simp] theorem presentEnd_faultMarks (s : State) : (presentEnd s).faultMarks = s.faultMarks := rfl
@[simp] theorem presentEnd_rst (s : State) : (presentEnd s).rst = s.rst := rfl
@[simp] theorem presentEnd_inbox (s : State) : (presentEnd s).inbox = s.inbox := rfl
@[simp] theorem presentEnd_draws (s : State) : (presentEnd s).draws = s.draws := rfl
@[simp] theorem presentEnd_sent (s : State) : (presentEnd s).sent = s.sent := rfl
@[simp] theorem presentEnd_reads (s : State) : (presentEnd s).reads = s.reads := rfl

/-! ### Presenting a body frame (R118). -/

@[simp] theorem presentBody_cmd (f : Frame) (s : State) : (presentBody f s).cmd = s.cmd := rfl
@[simp] theorem presentBody_busy (f : Frame) (s : State) : (presentBody f s).busy = s.busy := rfl
@[simp] theorem presentBody_txnOpen (f : Frame) (s : State) : (presentBody f s).txnOpen = s.txnOpen := rfl
@[simp] theorem presentBody_done (f : Frame) (s : State) : (presentBody f s).done = s.done := rfl
@[simp] theorem presentBody_ovr (f : Frame) (s : State) : (presentBody f s).ovr = s.ovr := rfl
@[simp] theorem presentBody_err (f : Frame) (s : State) : (presentBody f s).err = s.err := rfl
@[simp] theorem presentBody_detail (f : Frame) (s : State) : (presentBody f s).detail = s.detail := rfl
@[simp] theorem presentBody_bodyAcked (f : Frame) (s : State) : (presentBody f s).bodyAcked = s.bodyAcked := rfl
@[simp] theorem presentBody_irqEn (f : Frame) (s : State) : (presentBody f s).irqEn = s.irqEn := rfl
@[simp] theorem presentBody_timeoutMs (f : Frame) (s : State) : (presentBody f s).timeoutMs = s.timeoutMs := rfl
@[simp] theorem presentBody_desc (f : Frame) (s : State) : (presentBody f s).desc = s.desc := rfl
@[simp] theorem presentBody_rawcfg (f : Frame) (s : State) : (presentBody f s).rawcfg = s.rawcfg := rfl
@[simp] theorem presentBody_kcRange (f : Frame) (s : State) : (presentBody f s).kcRange = s.kcRange := rfl
@[simp] theorem presentBody_seq (f : Frame) (s : State) : (presentBody f s).seq = .sendBody := rfl
@[simp] theorem presentBody_lastCksum (f : Frame) (s : State) : (presentBody f s).lastCksum = accumulate f := rfl
@[simp] theorem presentBody_curOp (f : Frame) (s : State) : (presentBody f s).curOp = s.curOp := rfl
@[simp] theorem presentBody_curWrap (f : Frame) (s : State) : (presentBody f s).curWrap = s.curWrap := rfl
@[simp] theorem presentBody_bodyPend (f : Frame) (s : State) : (presentBody f s).bodyPend = s.bodyPend := rfl
@[simp] theorem presentBody_acc (f : Frame) (s : State) : (presentBody f s).acc = accumulate f := rfl
@[simp] theorem presentBody_kcBase (f : Frame) (s : State) : (presentBody f s).kcBase = s.kcBase := rfl
@[simp] theorem presentBody_kcPos (f : Frame) (s : State) : (presentBody f s).kcPos = s.kcPos := rfl
@[simp] theorem presentBody_kcRem (f : Frame) (s : State) : (presentBody f s).kcRem = s.kcRem := rfl
@[simp] theorem presentBody_kcN (f : Frame) (s : State) : (presentBody f s).kcN = s.kcN := rfl
@[simp] theorem presentBody_pb (f : Frame) (s : State) : (presentBody f s).pb = s.pb := rfl
@[simp] theorem presentBody_fb (f : Frame) (s : State) : (presentBody f s).fb = sealFrame f := rfl
@[simp] theorem presentBody_cb (f : Frame) (s : State) : (presentBody f s).cb = s.cb := rfl
@[simp] theorem presentBody_faultMarks (f : Frame) (s : State) : (presentBody f s).faultMarks = s.faultMarks := rfl
@[simp] theorem presentBody_rst (f : Frame) (s : State) : (presentBody f s).rst = s.rst := rfl
@[simp] theorem presentBody_inbox (f : Frame) (s : State) : (presentBody f s).inbox = s.inbox := rfl
@[simp] theorem presentBody_draws (f : Frame) (s : State) : (presentBody f s).draws = s.draws := rfl
@[simp] theorem presentBody_sent (f : Frame) (s : State) : (presentBody f s).sent = s.sent := rfl
@[simp] theorem presentBody_reads (f : Frame) (s : State) : (presentBody f s).reads = s.reads := rfl

/-! ### Taking an error (R134). -/

@[simp] theorem takeError_cmd (e : CmdError) (s : State) : (takeError e s).cmd = s.cmd := rfl
@[simp] theorem takeError_busy (e : CmdError) (s : State) : (takeError e s).busy = false := rfl
@[simp] theorem takeError_txnOpen (e : CmdError) (s : State) : (takeError e s).txnOpen = s.txnOpen := rfl
@[simp] theorem takeError_done (e : CmdError) (s : State) : (takeError e s).done = true := rfl
@[simp] theorem takeError_ovr (e : CmdError) (s : State) : (takeError e s).ovr = s.ovr := rfl
@[simp] theorem takeError_err (e : CmdError) (s : State) : (takeError e s).err = e.code := rfl
@[simp] theorem takeError_detail (e : CmdError) (s : State) : (takeError e s).detail = e.detail := rfl
@[simp] theorem takeError_bodyAcked (e : CmdError) (s : State) : (takeError e s).bodyAcked = s.bodyAcked := rfl
@[simp] theorem takeError_irqEn (e : CmdError) (s : State) : (takeError e s).irqEn = s.irqEn := rfl
@[simp] theorem takeError_timeoutMs (e : CmdError) (s : State) : (takeError e s).timeoutMs = s.timeoutMs := rfl
@[simp] theorem takeError_desc (e : CmdError) (s : State) : (takeError e s).desc = s.desc := rfl
@[simp] theorem takeError_rawcfg (e : CmdError) (s : State) : (takeError e s).rawcfg = s.rawcfg := rfl
@[simp] theorem takeError_kcRange (e : CmdError) (s : State) : (takeError e s).kcRange = s.kcRange := rfl
@[simp] theorem takeError_seq (e : CmdError) (s : State) : (takeError e s).seq = .idle := rfl
@[simp] theorem takeError_lastCksum (e : CmdError) (s : State) : (takeError e s).lastCksum = s.lastCksum := rfl
@[simp] theorem takeError_curOp (e : CmdError) (s : State) : (takeError e s).curOp = s.curOp := rfl
@[simp] theorem takeError_curWrap (e : CmdError) (s : State) : (takeError e s).curWrap = s.curWrap := rfl
@[simp] theorem takeError_bodyPend (e : CmdError) (s : State) : (takeError e s).bodyPend = s.bodyPend := rfl
@[simp] theorem takeError_acc (e : CmdError) (s : State) : (takeError e s).acc = s.acc := rfl
@[simp] theorem takeError_kcBase (e : CmdError) (s : State) : (takeError e s).kcBase = s.kcBase := rfl
@[simp] theorem takeError_kcPos (e : CmdError) (s : State) : (takeError e s).kcPos = s.kcPos := rfl
@[simp] theorem takeError_kcRem (e : CmdError) (s : State) : (takeError e s).kcRem = s.kcRem := rfl
@[simp] theorem takeError_kcN (e : CmdError) (s : State) : (takeError e s).kcN = s.kcN := rfl
@[simp] theorem takeError_pb (e : CmdError) (s : State) : (takeError e s).pb = s.pb := rfl
@[simp] theorem takeError_fb (e : CmdError) (s : State) : (takeError e s).fb = s.fb := rfl
@[simp] theorem takeError_cb (e : CmdError) (s : State) : (takeError e s).cb = s.cb := rfl
@[simp] theorem takeError_faultMarks (e : CmdError) (s : State) : (takeError e s).faultMarks = s.faultMarks := rfl
@[simp] theorem takeError_rst (e : CmdError) (s : State) : (takeError e s).rst = s.rst := rfl
@[simp] theorem takeError_inbox (e : CmdError) (s : State) : (takeError e s).inbox = s.inbox := rfl
@[simp] theorem takeError_draws (e : CmdError) (s : State) : (takeError e s).draws = s.draws := rfl
@[simp] theorem takeError_sent (e : CmdError) (s : State) : (takeError e s).sent = s.sent := rfl
@[simp] theorem takeError_reads (e : CmdError) (s : State) : (takeError e s).reads = s.reads := rfl

/-! ### Completing (R121). -/

@[simp] theorem complete_cmd (s : State) : (complete s).cmd = s.cmd := rfl
@[simp] theorem complete_busy (s : State) : (complete s).busy = false := rfl
@[simp] theorem complete_txnOpen (s : State) : (complete s).txnOpen = s.txnOpen := rfl
@[simp] theorem complete_done (s : State) : (complete s).done = true := rfl
@[simp] theorem complete_ovr (s : State) : (complete s).ovr = s.ovr := rfl
@[simp] theorem complete_err (s : State) : (complete s).err = s.err := rfl
@[simp] theorem complete_detail (s : State) : (complete s).detail = s.detail := rfl
@[simp] theorem complete_bodyAcked (s : State) : (complete s).bodyAcked = s.bodyAcked := rfl
@[simp] theorem complete_irqEn (s : State) : (complete s).irqEn = s.irqEn := rfl
@[simp] theorem complete_timeoutMs (s : State) : (complete s).timeoutMs = s.timeoutMs := rfl
@[simp] theorem complete_desc (s : State) : (complete s).desc = s.desc := rfl
@[simp] theorem complete_rawcfg (s : State) : (complete s).rawcfg = s.rawcfg := rfl
@[simp] theorem complete_kcRange (s : State) : (complete s).kcRange = s.kcRange := rfl
@[simp] theorem complete_seq (s : State) : (complete s).seq = .idle := rfl
@[simp] theorem complete_lastCksum (s : State) : (complete s).lastCksum = s.lastCksum := rfl
@[simp] theorem complete_curOp (s : State) : (complete s).curOp = s.curOp := rfl
@[simp] theorem complete_curWrap (s : State) : (complete s).curWrap = s.curWrap := rfl
@[simp] theorem complete_bodyPend (s : State) : (complete s).bodyPend = s.bodyPend := rfl
@[simp] theorem complete_acc (s : State) : (complete s).acc = s.acc := rfl
@[simp] theorem complete_kcBase (s : State) : (complete s).kcBase = s.kcBase := rfl
@[simp] theorem complete_kcPos (s : State) : (complete s).kcPos = s.kcPos := rfl
@[simp] theorem complete_kcRem (s : State) : (complete s).kcRem = s.kcRem := rfl
@[simp] theorem complete_kcN (s : State) : (complete s).kcN = s.kcN := rfl
@[simp] theorem complete_pb (s : State) : (complete s).pb = s.pb := rfl
@[simp] theorem complete_fb (s : State) : (complete s).fb = s.fb := rfl
@[simp] theorem complete_cb (s : State) : (complete s).cb = s.cb := rfl
@[simp] theorem complete_faultMarks (s : State) : (complete s).faultMarks = s.faultMarks := rfl
@[simp] theorem complete_rst (s : State) : (complete s).rst = s.rst := rfl
@[simp] theorem complete_inbox (s : State) : (complete s).inbox = s.inbox := rfl
@[simp] theorem complete_draws (s : State) : (complete s).draws = s.draws := rfl
@[simp] theorem complete_sent (s : State) : (complete s).sent = s.sent := rfl
@[simp] theorem complete_reads (s : State) : (complete s).reads = s.reads := rfl

/-! ### Aborting on a failed exchange (R122). -/

@[simp] theorem abort_cmd (r : Response) (s : State) : (abort r s).cmd = s.cmd := rfl
@[simp] theorem abort_busy (r : Response) (s : State) : (abort r s).busy = false := rfl
@[simp] theorem abort_txnOpen (r : Response) (s : State) : (abort r s).txnOpen = false := rfl
@[simp] theorem abort_done (r : Response) (s : State) : (abort r s).done = true := rfl
@[simp] theorem abort_ovr (r : Response) (s : State) : (abort r s).ovr = s.ovr := rfl
@[simp] theorem abort_err (r : Response) (s : State) : (abort r s).err = .transport := rfl
@[simp] theorem abort_detail (r : Response) (s : State) : (abort r s).detail = transportDetail s.seq r := rfl
@[simp] theorem abort_bodyAcked (r : Response) (s : State) : (abort r s).bodyAcked = s.bodyAcked := rfl
@[simp] theorem abort_irqEn (r : Response) (s : State) : (abort r s).irqEn = s.irqEn := rfl
@[simp] theorem abort_timeoutMs (r : Response) (s : State) : (abort r s).timeoutMs = s.timeoutMs := rfl
@[simp] theorem abort_desc (r : Response) (s : State) : (abort r s).desc = s.desc := rfl
@[simp] theorem abort_rawcfg (r : Response) (s : State) : (abort r s).rawcfg = s.rawcfg := rfl
@[simp] theorem abort_kcRange (r : Response) (s : State) : (abort r s).kcRange = s.kcRange := rfl
@[simp] theorem abort_seq (r : Response) (s : State) : (abort r s).seq = .idle := rfl
@[simp] theorem abort_lastCksum (r : Response) (s : State) : (abort r s).lastCksum = s.lastCksum := rfl
@[simp] theorem abort_curOp (r : Response) (s : State) : (abort r s).curOp = s.curOp := rfl
@[simp] theorem abort_curWrap (r : Response) (s : State) : (abort r s).curWrap = s.curWrap := rfl
@[simp] theorem abort_bodyPend (r : Response) (s : State) : (abort r s).bodyPend = s.bodyPend := rfl
@[simp] theorem abort_acc (r : Response) (s : State) : (abort r s).acc = s.acc := rfl
@[simp] theorem abort_kcBase (r : Response) (s : State) : (abort r s).kcBase = s.kcBase := rfl
@[simp] theorem abort_kcPos (r : Response) (s : State) : (abort r s).kcPos = s.kcPos := rfl
@[simp] theorem abort_kcRem (r : Response) (s : State) : (abort r s).kcRem = s.kcRem := rfl
@[simp] theorem abort_kcN (r : Response) (s : State) : (abort r s).kcN = s.kcN := rfl
@[simp] theorem abort_pb (r : Response) (s : State) : (abort r s).pb = s.pb := rfl
@[simp] theorem abort_fb (r : Response) (s : State) : (abort r s).fb = s.fb := rfl
@[simp] theorem abort_cb (r : Response) (s : State) : (abort r s).cb = s.cb := rfl
@[simp] theorem abort_faultMarks (r : Response) (s : State) : (abort r s).faultMarks = s.faultMarks := rfl
@[simp] theorem abort_rst (r : Response) (s : State) : (abort r s).rst = s.rst := rfl
@[simp] theorem abort_inbox (r : Response) (s : State) : (abort r s).inbox = s.inbox := rfl
@[simp] theorem abort_draws (r : Response) (s : State) : (abort r s).draws = s.draws := rfl
@[simp] theorem abort_sent (r : Response) (s : State) : (abort r s).sent = s.sent := rfl
@[simp] theorem abort_reads (r : Response) (s : State) : (abort r s).reads = s.reads := rfl

/-! ### Storing the accepted word (R114). -/

@[simp] theorem storeWord_cmd (v : Word) (s : State) : (storeWord v s).cmd = v := rfl
@[simp] theorem storeWord_busy (v : Word) (s : State) : (storeWord v s).busy = s.busy := rfl
@[simp] theorem storeWord_txnOpen (v : Word) (s : State) : (storeWord v s).txnOpen = s.txnOpen := rfl
@[simp] theorem storeWord_done (v : Word) (s : State) : (storeWord v s).done = false := rfl
@[simp] theorem storeWord_ovr (v : Word) (s : State) : (storeWord v s).ovr = s.ovr := rfl
@[simp] theorem storeWord_err (v : Word) (s : State) : (storeWord v s).err = .none := rfl
@[simp] theorem storeWord_detail (v : Word) (s : State) : (storeWord v s).detail = 0 := rfl
@[simp] theorem storeWord_bodyAcked (v : Word) (s : State) : (storeWord v s).bodyAcked = 0 := rfl
@[simp] theorem storeWord_irqEn (v : Word) (s : State) : (storeWord v s).irqEn = s.irqEn := rfl
@[simp] theorem storeWord_timeoutMs (v : Word) (s : State) : (storeWord v s).timeoutMs = s.timeoutMs := rfl
@[simp] theorem storeWord_desc (v : Word) (s : State) : (storeWord v s).desc = s.desc := rfl
@[simp] theorem storeWord_rawcfg (v : Word) (s : State) : (storeWord v s).rawcfg = s.rawcfg := rfl
@[simp] theorem storeWord_kcRange (v : Word) (s : State) : (storeWord v s).kcRange = s.kcRange := rfl
@[simp] theorem storeWord_seq (v : Word) (s : State) : (storeWord v s).seq = s.seq := rfl
@[simp] theorem storeWord_lastCksum (v : Word) (s : State) : (storeWord v s).lastCksum = s.lastCksum := rfl
@[simp] theorem storeWord_curOp (v : Word) (s : State) : (storeWord v s).curOp = s.curOp := rfl
@[simp] theorem storeWord_curWrap (v : Word) (s : State) : (storeWord v s).curWrap = s.curWrap := rfl
@[simp] theorem storeWord_bodyPend (v : Word) (s : State) : (storeWord v s).bodyPend = s.bodyPend := rfl
@[simp] theorem storeWord_acc (v : Word) (s : State) : (storeWord v s).acc = s.acc := rfl
@[simp] theorem storeWord_kcBase (v : Word) (s : State) : (storeWord v s).kcBase = s.kcBase := rfl
@[simp] theorem storeWord_kcPos (v : Word) (s : State) : (storeWord v s).kcPos = s.kcPos := rfl
@[simp] theorem storeWord_kcRem (v : Word) (s : State) : (storeWord v s).kcRem = s.kcRem := rfl
@[simp] theorem storeWord_kcN (v : Word) (s : State) : (storeWord v s).kcN = s.kcN := rfl
@[simp] theorem storeWord_pb (v : Word) (s : State) : (storeWord v s).pb = s.pb := rfl
@[simp] theorem storeWord_fb (v : Word) (s : State) : (storeWord v s).fb = s.fb := rfl
@[simp] theorem storeWord_cb (v : Word) (s : State) : (storeWord v s).cb = s.cb := rfl
@[simp] theorem storeWord_faultMarks (v : Word) (s : State) : (storeWord v s).faultMarks = s.faultMarks := rfl
@[simp] theorem storeWord_rst (v : Word) (s : State) : (storeWord v s).rst = s.rst := rfl
@[simp] theorem storeWord_inbox (v : Word) (s : State) : (storeWord v s).inbox = s.inbox := rfl
@[simp] theorem storeWord_draws (v : Word) (s : State) : (storeWord v s).draws = s.draws := rfl
@[simp] theorem storeWord_sent (v : Word) (s : State) : (storeWord v s).sent = s.sent := rfl
@[simp] theorem storeWord_reads (v : Word) (s : State) : (storeWord v s).reads = s.reads := rfl

/-! ### Latching the word's fields (R114). -/

@[simp] theorem latchWord_cmd (v : Word) (s : State) : (latchWord v s).cmd = s.cmd := rfl
@[simp] theorem latchWord_busy (v : Word) (s : State) : (latchWord v s).busy = true := rfl
@[simp] theorem latchWord_txnOpen (v : Word) (s : State) : (latchWord v s).txnOpen = s.txnOpen := rfl
@[simp] theorem latchWord_done (v : Word) (s : State) : (latchWord v s).done = s.done := rfl
@[simp] theorem latchWord_ovr (v : Word) (s : State) : (latchWord v s).ovr = s.ovr := rfl
@[simp] theorem latchWord_err (v : Word) (s : State) : (latchWord v s).err = s.err := rfl
@[simp] theorem latchWord_detail (v : Word) (s : State) : (latchWord v s).detail = s.detail := rfl
@[simp] theorem latchWord_bodyAcked (v : Word) (s : State) : (latchWord v s).bodyAcked = s.bodyAcked := rfl
@[simp] theorem latchWord_irqEn (v : Word) (s : State) : (latchWord v s).irqEn = s.irqEn := rfl
@[simp] theorem latchWord_timeoutMs (v : Word) (s : State) : (latchWord v s).timeoutMs = s.timeoutMs := rfl
@[simp] theorem latchWord_desc (v : Word) (s : State) : (latchWord v s).desc = s.desc := rfl
@[simp] theorem latchWord_rawcfg (v : Word) (s : State) : (latchWord v s).rawcfg = s.rawcfg := rfl
@[simp] theorem latchWord_kcRange (v : Word) (s : State) : (latchWord v s).kcRange = s.kcRange := rfl
@[simp] theorem latchWord_seq (v : Word) (s : State) : (latchWord v s).seq = s.seq := rfl
@[simp] theorem latchWord_lastCksum (v : Word) (s : State) : (latchWord v s).lastCksum = s.lastCksum := rfl
@[simp] theorem latchWord_curOp (v : Word) (s : State) : (latchWord v s).curOp = wordOp v := rfl
@[simp] theorem latchWord_curWrap (v : Word) (s : State) : (latchWord v s).curWrap = wordWrap v := rfl
@[simp] theorem latchWord_bodyPend (v : Word) (s : State) : (latchWord v s).bodyPend = s.bodyPend := rfl
@[simp] theorem latchWord_acc (v : Word) (s : State) : (latchWord v s).acc = s.acc := rfl
@[simp] theorem latchWord_kcBase (v : Word) (s : State) : (latchWord v s).kcBase = s.kcBase := rfl
@[simp] theorem latchWord_kcPos (v : Word) (s : State) : (latchWord v s).kcPos = s.kcPos := rfl
@[simp] theorem latchWord_kcRem (v : Word) (s : State) : (latchWord v s).kcRem = s.kcRem := rfl
@[simp] theorem latchWord_kcN (v : Word) (s : State) : (latchWord v s).kcN = s.kcN := rfl
@[simp] theorem latchWord_pb (v : Word) (s : State) : (latchWord v s).pb = s.pb := rfl
@[simp] theorem latchWord_fb (v : Word) (s : State) : (latchWord v s).fb = s.fb := rfl
@[simp] theorem latchWord_cb (v : Word) (s : State) : (latchWord v s).cb = s.cb := rfl
@[simp] theorem latchWord_faultMarks (v : Word) (s : State) : (latchWord v s).faultMarks = s.faultMarks := rfl
@[simp] theorem latchWord_rst (v : Word) (s : State) : (latchWord v s).rst = s.rst := rfl
@[simp] theorem latchWord_inbox (v : Word) (s : State) : (latchWord v s).inbox = s.inbox := rfl
@[simp] theorem latchWord_draws (v : Word) (s : State) : (latchWord v s).draws = s.draws := rfl
@[simp] theorem latchWord_sent (v : Word) (s : State) : (latchWord v s).sent = s.sent := rfl
@[simp] theorem latchWord_reads (v : Word) (s : State) : (latchWord v s).reads = s.reads := rfl

/-! ### Chunk initialisation (R104). -/

@[simp] theorem chunkInit_cmd (s : State) : (chunkInit s).cmd = s.cmd := rfl
@[simp] theorem chunkInit_busy (s : State) : (chunkInit s).busy = s.busy := rfl
@[simp] theorem chunkInit_txnOpen (s : State) : (chunkInit s).txnOpen = s.txnOpen := rfl
@[simp] theorem chunkInit_done (s : State) : (chunkInit s).done = s.done := rfl
@[simp] theorem chunkInit_ovr (s : State) : (chunkInit s).ovr = s.ovr := rfl
@[simp] theorem chunkInit_err (s : State) : (chunkInit s).err = s.err := rfl
@[simp] theorem chunkInit_detail (s : State) : (chunkInit s).detail = s.detail := rfl
@[simp] theorem chunkInit_bodyAcked (s : State) : (chunkInit s).bodyAcked = s.bodyAcked := rfl
@[simp] theorem chunkInit_irqEn (s : State) : (chunkInit s).irqEn = s.irqEn := rfl
@[simp] theorem chunkInit_timeoutMs (s : State) : (chunkInit s).timeoutMs = s.timeoutMs := rfl
@[simp] theorem chunkInit_desc (s : State) : (chunkInit s).desc = s.desc := rfl
@[simp] theorem chunkInit_rawcfg (s : State) : (chunkInit s).rawcfg = s.rawcfg := rfl
@[simp] theorem chunkInit_kcRange (s : State) : (chunkInit s).kcRange = s.kcRange := rfl
@[simp] theorem chunkInit_seq (s : State) : (chunkInit s).seq = s.seq := rfl
@[simp] theorem chunkInit_lastCksum (s : State) : (chunkInit s).lastCksum = s.lastCksum := rfl
@[simp] theorem chunkInit_curOp (s : State) : (chunkInit s).curOp = s.curOp := rfl
@[simp] theorem chunkInit_curWrap (s : State) : (chunkInit s).curWrap = s.curWrap := rfl
@[simp] theorem chunkInit_bodyPend (s : State) : (chunkInit s).bodyPend = s.bodyPend := rfl
@[simp] theorem chunkInit_acc (s : State) : (chunkInit s).acc = s.acc := rfl
@[simp] theorem chunkInit_kcBase (s : State) : (chunkInit s).kcBase = if s.clamped > 0 then s.kcStart.extractLsb' 0 8 else 0 := rfl
@[simp] theorem chunkInit_kcPos (s : State) : (chunkInit s).kcPos = 0 := rfl
@[simp] theorem chunkInit_kcRem (s : State) : (chunkInit s).kcRem = BitVec.ofNat 8 s.clamped := rfl
@[simp] theorem chunkInit_kcN (s : State) : (chunkInit s).kcN = 0 := rfl
@[simp] theorem chunkInit_pb (s : State) : (chunkInit s).pb = s.pb := rfl
@[simp] theorem chunkInit_fb (s : State) : (chunkInit s).fb = s.fb := rfl
@[simp] theorem chunkInit_cb (s : State) : (chunkInit s).cb = s.cb := rfl
@[simp] theorem chunkInit_faultMarks (s : State) : (chunkInit s).faultMarks = s.faultMarks := rfl
@[simp] theorem chunkInit_rst (s : State) : (chunkInit s).rst = s.rst := rfl
@[simp] theorem chunkInit_inbox (s : State) : (chunkInit s).inbox = s.inbox := rfl
@[simp] theorem chunkInit_draws (s : State) : (chunkInit s).draws = s.draws := rfl
@[simp] theorem chunkInit_sent (s : State) : (chunkInit s).sent = s.sent := rfl
@[simp] theorem chunkInit_reads (s : State) : (chunkInit s).reads = s.reads := rfl

/-! ### Building a chunk (R106). -/

@[simp] theorem buildChunk_cmd (s : State) : (buildChunk s).cmd = s.cmd := rfl
@[simp] theorem buildChunk_busy (s : State) : (buildChunk s).busy = s.busy := rfl
@[simp] theorem buildChunk_txnOpen (s : State) : (buildChunk s).txnOpen = s.txnOpen := rfl
@[simp] theorem buildChunk_done (s : State) : (buildChunk s).done = s.done := rfl
@[simp] theorem buildChunk_ovr (s : State) : (buildChunk s).ovr = s.ovr := rfl
@[simp] theorem buildChunk_err (s : State) : (buildChunk s).err = s.err := rfl
@[simp] theorem buildChunk_detail (s : State) : (buildChunk s).detail = s.detail := rfl
@[simp] theorem buildChunk_bodyAcked (s : State) : (buildChunk s).bodyAcked = s.bodyAcked := rfl
@[simp] theorem buildChunk_irqEn (s : State) : (buildChunk s).irqEn = s.irqEn := rfl
@[simp] theorem buildChunk_timeoutMs (s : State) : (buildChunk s).timeoutMs = s.timeoutMs := rfl
@[simp] theorem buildChunk_desc (s : State) : (buildChunk s).desc = s.desc := rfl
@[simp] theorem buildChunk_rawcfg (s : State) : (buildChunk s).rawcfg = s.rawcfg := rfl
@[simp] theorem buildChunk_kcRange (s : State) : (buildChunk s).kcRange = s.kcRange := rfl
@[simp] theorem buildChunk_seq (s : State) : (buildChunk s).seq = .sendBody := rfl
@[simp] theorem buildChunk_lastCksum (s : State) : (buildChunk s).lastCksum = accumulate s.chunkFrame := rfl
@[simp] theorem buildChunk_curOp (s : State) : (buildChunk s).curOp = s.curOp := rfl
@[simp] theorem buildChunk_curWrap (s : State) : (buildChunk s).curWrap = s.curWrap := rfl
@[simp] theorem buildChunk_bodyPend (s : State) : (buildChunk s).bodyPend = s.bodyPend := rfl
@[simp] theorem buildChunk_acc (s : State) : (buildChunk s).acc = accumulate s.chunkFrame := rfl
@[simp] theorem buildChunk_kcBase (s : State) : (buildChunk s).kcBase = s.kcBase := rfl
@[simp] theorem buildChunk_kcPos (s : State) : (buildChunk s).kcPos = s.kcPos := rfl
@[simp] theorem buildChunk_kcRem (s : State) : (buildChunk s).kcRem = s.kcRem := rfl
@[simp] theorem buildChunk_kcN (s : State) : (buildChunk s).kcN = BitVec.ofNat 8 s.chunkKeys := rfl
@[simp] theorem buildChunk_pb (s : State) : (buildChunk s).pb = s.pb := rfl
@[simp] theorem buildChunk_fb (s : State) : (buildChunk s).fb = sealFrame s.chunkFrame := rfl
@[simp] theorem buildChunk_cb (s : State) : (buildChunk s).cb = s.cb := rfl
@[simp] theorem buildChunk_faultMarks (s : State) : (buildChunk s).faultMarks = s.faultMarks ++ s.chunkFaults := rfl
@[simp] theorem buildChunk_rst (s : State) : (buildChunk s).rst = s.rst := rfl
@[simp] theorem buildChunk_inbox (s : State) : (buildChunk s).inbox = s.inbox := rfl
@[simp] theorem buildChunk_draws (s : State) : (buildChunk s).draws = s.draws + s.chunkKeys := rfl
@[simp] theorem buildChunk_sent (s : State) : (buildChunk s).sent = s.sent := rfl
@[simp] theorem buildChunk_reads (s : State) : (buildChunk s).reads = s.reads := rfl

/-! ### Advancing the chunker (R107). -/

@[simp] theorem advanceChunk_cmd (s : State) : (advanceChunk s).cmd = s.cmd := rfl
@[simp] theorem advanceChunk_busy (s : State) : (advanceChunk s).busy = s.busy := rfl
@[simp] theorem advanceChunk_txnOpen (s : State) : (advanceChunk s).txnOpen = s.txnOpen := rfl
@[simp] theorem advanceChunk_done (s : State) : (advanceChunk s).done = s.done := rfl
@[simp] theorem advanceChunk_ovr (s : State) : (advanceChunk s).ovr = s.ovr := rfl
@[simp] theorem advanceChunk_err (s : State) : (advanceChunk s).err = s.err := rfl
@[simp] theorem advanceChunk_detail (s : State) : (advanceChunk s).detail = s.detail := rfl
@[simp] theorem advanceChunk_bodyAcked (s : State) : (advanceChunk s).bodyAcked = s.bodyAcked := rfl
@[simp] theorem advanceChunk_irqEn (s : State) : (advanceChunk s).irqEn = s.irqEn := rfl
@[simp] theorem advanceChunk_timeoutMs (s : State) : (advanceChunk s).timeoutMs = s.timeoutMs := rfl
@[simp] theorem advanceChunk_desc (s : State) : (advanceChunk s).desc = s.desc := rfl
@[simp] theorem advanceChunk_rawcfg (s : State) : (advanceChunk s).rawcfg = s.rawcfg := rfl
@[simp] theorem advanceChunk_kcRange (s : State) : (advanceChunk s).kcRange = s.kcRange := rfl
@[simp] theorem advanceChunk_seq (s : State) : (advanceChunk s).seq = s.seq := rfl
@[simp] theorem advanceChunk_lastCksum (s : State) : (advanceChunk s).lastCksum = s.lastCksum := rfl
@[simp] theorem advanceChunk_curOp (s : State) : (advanceChunk s).curOp = s.curOp := rfl
@[simp] theorem advanceChunk_curWrap (s : State) : (advanceChunk s).curWrap = s.curWrap := rfl
@[simp] theorem advanceChunk_bodyPend (s : State) : (advanceChunk s).bodyPend = s.bodyPend := rfl
@[simp] theorem advanceChunk_acc (s : State) : (advanceChunk s).acc = s.acc := rfl
@[simp] theorem advanceChunk_kcBase (s : State) : (advanceChunk s).kcBase = s.kcBase := rfl
@[simp] theorem advanceChunk_kcPos (s : State) : (advanceChunk s).kcPos = s.kcPos + s.kcN := rfl
@[simp] theorem advanceChunk_kcRem (s : State) : (advanceChunk s).kcRem = s.kcRem - s.kcN := rfl
@[simp] theorem advanceChunk_kcN (s : State) : (advanceChunk s).kcN = s.kcN := rfl
@[simp] theorem advanceChunk_pb (s : State) : (advanceChunk s).pb = s.pb := rfl
@[simp] theorem advanceChunk_fb (s : State) : (advanceChunk s).fb = s.fb := rfl
@[simp] theorem advanceChunk_cb (s : State) : (advanceChunk s).cb = s.cb := rfl
@[simp] theorem advanceChunk_faultMarks (s : State) : (advanceChunk s).faultMarks = s.faultMarks := rfl
@[simp] theorem advanceChunk_rst (s : State) : (advanceChunk s).rst = s.rst := rfl
@[simp] theorem advanceChunk_inbox (s : State) : (advanceChunk s).inbox = s.inbox := rfl
@[simp] theorem advanceChunk_draws (s : State) : (advanceChunk s).draws = s.draws := rfl
@[simp] theorem advanceChunk_sent (s : State) : (advanceChunk s).sent = s.sent := rfl
@[simp] theorem advanceChunk_reads (s : State) : (advanceChunk s).reads = s.reads := rfl

/-! ### An acknowledged END (R120). -/

@[simp] theorem endAcked_cmd (s : State) : (endAcked s).cmd = s.cmd := rfl
@[simp] theorem endAcked_busy (s : State) : (endAcked s).busy = false := rfl
@[simp] theorem endAcked_txnOpen (s : State) : (endAcked s).txnOpen = false := rfl
@[simp] theorem endAcked_done (s : State) : (endAcked s).done = true := rfl
@[simp] theorem endAcked_ovr (s : State) : (endAcked s).ovr = s.ovr := rfl
@[simp] theorem endAcked_err (s : State) : (endAcked s).err = s.err := rfl
@[simp] theorem endAcked_detail (s : State) : (endAcked s).detail = s.detail := rfl
@[simp] theorem endAcked_bodyAcked (s : State) : (endAcked s).bodyAcked = s.bodyAcked := rfl
@[simp] theorem endAcked_irqEn (s : State) : (endAcked s).irqEn = s.irqEn := rfl
@[simp] theorem endAcked_timeoutMs (s : State) : (endAcked s).timeoutMs = s.timeoutMs := rfl
@[simp] theorem endAcked_desc (s : State) : (endAcked s).desc = s.desc := rfl
@[simp] theorem endAcked_rawcfg (s : State) : (endAcked s).rawcfg = s.rawcfg := rfl
@[simp] theorem endAcked_kcRange (s : State) : (endAcked s).kcRange = s.kcRange := rfl
@[simp] theorem endAcked_seq (s : State) : (endAcked s).seq = .idle := rfl
@[simp] theorem endAcked_lastCksum (s : State) : (endAcked s).lastCksum = s.lastCksum := rfl
@[simp] theorem endAcked_curOp (s : State) : (endAcked s).curOp = s.curOp := rfl
@[simp] theorem endAcked_curWrap (s : State) : (endAcked s).curWrap = s.curWrap := rfl
@[simp] theorem endAcked_bodyPend (s : State) : (endAcked s).bodyPend = s.bodyPend := rfl
@[simp] theorem endAcked_acc (s : State) : (endAcked s).acc = s.acc := rfl
@[simp] theorem endAcked_kcBase (s : State) : (endAcked s).kcBase = s.kcBase := rfl
@[simp] theorem endAcked_kcPos (s : State) : (endAcked s).kcPos = s.kcPos := rfl
@[simp] theorem endAcked_kcRem (s : State) : (endAcked s).kcRem = s.kcRem := rfl
@[simp] theorem endAcked_kcN (s : State) : (endAcked s).kcN = s.kcN := rfl
@[simp] theorem endAcked_pb (s : State) : (endAcked s).pb = s.pb := rfl
@[simp] theorem endAcked_fb (s : State) : (endAcked s).fb = s.fb := rfl
@[simp] theorem endAcked_cb (s : State) : (endAcked s).cb = s.cb := rfl
@[simp] theorem endAcked_faultMarks (s : State) : (endAcked s).faultMarks = s.faultMarks := rfl
@[simp] theorem endAcked_rst (s : State) : (endAcked s).rst = s.rst := rfl
@[simp] theorem endAcked_inbox (s : State) : (endAcked s).inbox = s.inbox := rfl
@[simp] theorem endAcked_draws (s : State) : (endAcked s).draws = s.draws := rfl
@[simp] theorem endAcked_sent (s : State) : (endAcked s).sent = s.sent := rfl
@[simp] theorem endAcked_reads (s : State) : (endAcked s).reads = s.reads := rfl

end Sys2Proof.Machine
end

