-- ==== Sys2Proof/Laws/Requests.lean ====
section
/-! SUPPORT. The acceptance of a request word: what each path of `accept` answers, the states it leads to field by field,
and which register an access reaches. -/

namespace Sys2Proof.Machine

/-! ### The control frames -/

theorem sealFrame_start : sealFrame (ctrlFrame Config.cmdStart) = frameOfBytes [0x00, 0x01, 0x00, 0x01] := by decide +kernel
theorem sealFrame_end : sealFrame (ctrlFrame Config.cmdEnd) = frameOfBytes [0x00, 0x02, 0x00, 0x02] := by decide +kernel
theorem frameOfBytes_start : frameOfBytes [0x00, 0x01, 0x00, 0x01] = encStart := by decide +kernel
theorem frameOfBytes_end : frameOfBytes [0x00, 0x02, 0x00, 0x02] = encEnd := by decide +kernel
theorem accumulate_start : accumulate (ctrlFrame Config.cmdStart) = 1 := by decide +kernel
theorem accumulate_end : accumulate (ctrlFrame Config.cmdEnd) = 2 := by decide +kernel

/-- Presenting START, field by field (R65, R116). -/
theorem presentStart_eq (s : State) : presentStart s = presentingStart s := by
  rw [presentStart, loadFrame, sealFrame_start, accumulate_start]; rfl

/-- Presenting END, field by field (R66, R116). -/
theorem presentEnd_eq (s : State) : presentEnd s = presentingEnd s := by
  rw [presentEnd, loadFrame, sealFrame_end, accumulate_end]; rfl

/-- Entering a body command, field by field (R116). -/
theorem enterBody_eq (w : Bool) (s : State) : enterBody w s = enteredBody w s := by
  simp only [enterBody, enteredBody, presentStart_eq]

/-- Presenting a body frame, field by field (R118). -/
theorem presentBody_eq (f : Frame) (s : State) : presentBody f s = presentingBody f s := rfl

/-! ### Request words -/

/-- The request word of a command, as a number (R56). -/
theorem requestWord_eq (op : Byte) (w : Bool) : requestWord op w = wordOfCommand op w := by
  apply BitVec.eq_of_toNat_eq
  have := op.isLt
  have h : (0#23 ++ BitVec.ofBool w ++ op).toNat = w.toNat * 256 + op.toNat := by
    rw [BitVec.toNat_append, BitVec.toNat_append, Nat.shiftLeft_eq, ← Nat.shiftLeft_eq,
      ← Nat.shiftLeft_add_eq_or_of_lt this]
    simp [Nat.shiftLeft_eq]
  rw [requestWord, h, wordOfCommand, BitVec.toNat_ofNat]
  cases w <;> simp <;> omega

/-- The latches and fields that acceptance writes, field by field (R114). -/
theorem latch_store (op : Byte) (w : Bool) (s : State) :
    latchWord (requestWord op w) (storeWord (requestWord op w) s) = acceptedAt op w s := by
  simp only [latchWord, storeWord, acceptedAt, wordOp_requestWord, wordWrap_requestWord]
  rw [requestWord_eq]

/-! ### The paths of acceptance (R18, R22, R114, R147) -/

theorem accept_rst {s : State} (v : Word) (c : State → Option CmdError) (st : State → State) (h : s.rst = true) :
    accept v c st s = s := by simp [accept, h]

theorem accept_busy {s : State} (v : Word) (c : State → Option CmdError) (st : State → State) (h1 : s.rst = false)
    (h2 : s.busy = true) : accept v c st s = { s with ovr := true } := by simp [accept, h1, h2]

theorem accept_ok {s : State} {c : State → Option CmdError} (v : Word) (st : State → State) (h1 : s.rst = false)
    (h2 : s.busy = false) (h3 : c s = none) : accept v c st s = st (latchWord v (storeWord v s)) := by
  simp [accept, h1, h2, h3]

theorem accept_err {s : State} {c : State → Option CmdError} {e : CmdError} (v : Word) (st : State → State)
    (h1 : s.rst = false) (h2 : s.busy = false) (h3 : c s = some e) : accept v c st s = erroredAt v e s := by
  simp [accept, h1, h2, h3, takeError, storeWord, erroredAt]

/-- Everything acceptance can do: nothing while `rst` is asserted, OVR while a command runs, an error, or the start. -/
theorem accept_cases (v : Word) (c : State → Option CmdError) (st : State → State) (s : State) :
    (s.rst = true ∧ accept v c st s = s) ∨
      (s.rst = false ∧ s.busy = true ∧ accept v c st s = { s with ovr := true }) ∨
      (∃ e, s.rst = false ∧ s.busy = false ∧ c s = some e ∧ accept v c st s = erroredAt v e s) ∨
      (s.rst = false ∧ s.busy = false ∧ c s = none ∧ accept v c st s = st (latchWord v (storeWord v s))) := by
  by_cases h1 : s.rst = true
  · exact .inl ⟨h1, accept_rst v c st h1⟩
  · rw [Bool.not_eq_true] at h1
    by_cases h2 : s.busy = true
    · exact .inr (.inl ⟨h1, h2, accept_busy v c st h1 h2⟩)
    · rw [Bool.not_eq_true] at h2
      cases h3 : c s
      · exact .inr (.inr (.inr ⟨h1, h2, rfl, accept_ok v st h1 h2 h3⟩))
      · exact .inr (.inr (.inl ⟨_, h1, h2, rfl, accept_err v st h1 h2 h3⟩))

/-! ### The checks (R115) -/

/-- The sequence check passes exactly when WRAP is the opposite of TXN_OPEN. -/
theorem checkBody_none {w : Bool} {s : State} : checkBody w s = none ↔ s.txnOpen = !w := by
  cases w <;> cases h : s.txnOpen <;> simp [checkBody, h]

/-- The sequence check fails exactly when WRAP is TXN_OPEN, with DETAIL 2 or 3. -/
theorem checkBody_some {w : Bool} {s : State} (h : s.txnOpen = w) :
    checkBody w s = some ⟨.sequence, if w then 2 else 3⟩ := by
  cases w <;> simp [checkBody, sequenceError, h]

/-! ### The register an access reaches (R17) -/

theorem regAt_cmd {a : Offset} : regAt a = .cmd ↔ a.toNat / 4 = 0 := by
  unfold regAt
  constructor
  · intro h; by_contra hc
    simp only at h
    split_ifs at h
  · intro h; simp [h]

end Sys2Proof.Machine
end

