-- ==== Sys2Proof/Laws/Build.lean ====
section
/-! SUPPORT. The frames BUILD makes, byte by byte: the subcommand builder, each command's body frame, and what the BUILD
step answers. -/

namespace Sys2Proof.Machine

@[simp] theorem frameOfBytes_get (bs : List Byte) (i : Nat) (h : i < 64) : (frameOfBytes bs)[i] = bs.getD i 0 := by
  simp [frameOfBytes]

theorem pbBytes_length (s : State) (n : Nat) (h : n ≤ 64) : (s.pbBytes n).length = n := by simp [State.pbBytes, h]

theorem pbBytes_get (s : State) (n i : Nat) (h : i < 64) (h2 : i < (s.pbBytes n).length) :
    (s.pbBytes n)[i] = s.pb[i] := by simp [State.pbBytes]

theorem pbBytes_one (s : State) : s.pbBytes 1 = [s.pb[0]] := by
  apply List.ext_getElem
  · simp [State.pbBytes]
  · intro i h1 h2; simp at h2; subst h2; simp [State.pbBytes]

theorem pbBytes_three (s : State) : s.pbBytes 3 = [s.pb[0], s.pb[1], s.pb[2]] := by
  apply List.ext_getElem
  · simp [State.pbBytes]
  · intro i h1 h2; simp at h2
    have : i = 0 ∨ i = 1 ∨ i = 2 := by omega
    rcases this with rfl | rfl | rfl <;> simp [State.pbBytes]

theorem descBytes_get (s : State) (i : Nat) (h : i < 4) (h2 : i < s.descBytes.length) :
    s.descBytes[i] = s.desc.extractLsb' (8 * i) 8 := by
  have : i = 0 ∨ i = 1 ∨ i = 2 ∨ i = 3 := by omega
  rcases this with rfl | rfl | rfl | rfl <;> rfl

/-- A subcommand frame with a descriptor of four bytes and an argument that fits, byte by byte (R67, R80). -/
theorem buildSubcommandFrame_ok (d a : List Byte) (hd : d.length = 4) (ha : a.length ≤ 56) :
    ∃ f, buildSubcommandFrame d a = .ok f ∧
      ∀ i (_ : i < 64), f[i] =
        if h8 : 8 ≤ i ∧ i < 8 + a.length then a[i - 8]'(by omega)
        else if h4 : 4 ≤ i ∧ i < 8 then d[i - 4]'(by omega) else if i = 3 then 6#8 else 0 := by
  unfold buildSubcommandFrame buildControlFrame
  rw [if_neg (by simp; omega), if_neg (by simp [hd])]
  refine ⟨_, rfl, fun i h => ?_⟩
  rw [copyBytes_get]
  by_cases h1 : 8 ≤ i ∧ i < 8 + a.length
  · rw [dif_pos h1, dif_pos h1]
  · rw [dif_neg h1, dif_neg h1, controlFrame_get]
    by_cases h2 : 4 ≤ i ∧ i < 8
    · rw [dif_pos (by simp [hd]; omega), dif_pos h2]
    · rw [dif_neg (by simp [hd]; omega), dif_neg h2]
      by_cases h0 : i = 0
      · subst h0; simp
      · rw [if_neg h0]

/-- A named setting's body frame: its descriptor and the first bytes of PB (R82). -/
theorem bodyNamed_eq (s : State) (d : Descriptor) (n : Nat) (hn : n ≤ 56) :
    bodyNamed d n s = .ok (frameOfBytes ([0, 0, 0, 6, d.d0, d.d1, d.d2, d.d3] ++ s.pbBytes n)) := by
  have hl := pbBytes_length s n (by omega)
  obtain ⟨f, h1, h2⟩ := buildSubcommandFrame_ok [d.d0, d.d1, d.d2, d.d3] (s.pbBytes n) rfl (by omega)
  rw [bodyNamed, h1]
  refine congrArg Except.ok (Vector.ext fun i hi => ?_)
  rw [h2, frameOfBytes_get, List.getD_eq_getElem?_getD]
  by_cases h : 8 ≤ i
  · rw [List.getElem?_append_right (by simpa using h)]
    by_cases h' : i < 8 + (s.pbBytes n).length
    · rw [dif_pos ⟨h, h'⟩, List.getElem?_eq_getElem (by simp; omega)]; simp
    · rw [dif_neg (by omega), dif_neg (by omega), if_neg (by omega), List.getElem?_eq_none (by simp; omega)]; simp
  · rw [dif_neg (by omega)]
    have : i = 0 ∨ i = 1 ∨ i = 2 ∨ i = 3 ∨ i = 4 ∨ i = 5 ∨ i = 6 ∨ i = 7 := by omega
    rcases this with rfl | rfl | rfl | rfl | rfl | rfl | rfl | rfl <;> simp

/-! ### The body frame of each command (R118) -/

theorem bodyFrame_subcommand {s : State} (h : s.curOp = Op.subcommand) : bodyFrame s = some (bodySubcommand s) := by
  simp [bodyFrame, h]
theorem bodyFrame_setMode {s : State} (h : s.curOp = Op.setMode) : bodyFrame s = some (bodySetMode s) := by
  simp [bodyFrame, h]
theorem bodyFrame_setBrightness {s : State} (h : s.curOp = Op.setBrightness) :
    bodyFrame s = some (bodySetBrightness s) := by simp [bodyFrame, h]
theorem bodyFrame_setDelay {s : State} (h : s.curOp = Op.setDelay) : bodyFrame s = some (bodySetDelay s) := by
  simp [bodyFrame, h]
theorem bodyFrame_setDirection {s : State} (h : s.curOp = Op.setDirection) :
    bodyFrame s = some (bodySetDirection s) := by simp [bodyFrame, h]
theorem bodyFrame_setColorful {s : State} (h : s.curOp = Op.setColorful) :
    bodyFrame s = some (bodySetColorful s) := by simp [bodyFrame, h]
theorem bodyFrame_setColor {s : State} (h : s.curOp = Op.setColor) : bodyFrame s = some (bodySetColor s) := by
  simp [bodyFrame, h]
theorem bodyFrame_setRate {s : State} (h : s.curOp = Op.setRate) : bodyFrame s = some (bodySetRate s) := by
  simp [bodyFrame, h]
theorem bodyFrame_rawFrame {s : State} (h : s.curOp = Op.rawFrame) : bodyFrame s = some (bodyRawFrame s) := by
  simp [bodyFrame, h]

/-- A builder's raise is PAYLOAD_TOO_LARGE with DETAIL 0 or 1 (R78, R80, R132). -/
theorem bodyFrame_error {s : State} {e : CmdError} (h : bodyFrame s = some (.error e)) :
    e = payloadTooLarge 0 ∨ e = payloadTooLarge 1 := by
  have hb : ∀ {t c p o}, buildControlFrame t c p o = .error e → e = payloadTooLarge 0 := by
    intro t c p o h; unfold buildControlFrame at h; split at h
    · cases h; rfl
    · cases h
  have hs : ∀ {d a}, buildSubcommandFrame d a = .error e → e = payloadTooLarge 0 ∨ e = payloadTooLarge 1 := by
    intro d a h; unfold buildSubcommandFrame at h; split at h
    · cases h; exact .inr rfl
    · split at h
      · rename_i h2; cases h; exact .inl (hb h2)
      · cases h
  unfold bodyFrame at h
  repeat' split at h
  all_goals first
    | cases h
    | exact hs (Option.some.inj h)
    | (rw [bodySetMode, bodyNamed] at h; exact hs (Option.some.inj h))
    | (rw [bodySetBrightness, bodyNamed] at h; exact hs (Option.some.inj h))
    | (rw [bodySetDelay, bodyNamed] at h; exact hs (Option.some.inj h))
    | (rw [bodySetDirection, bodyNamed] at h; exact hs (Option.some.inj h))
    | (rw [bodySetColorful, bodyNamed] at h; exact hs (Option.some.inj h))
    | (rw [bodySetColor, bodyNamed] at h; exact hs (Option.some.inj h))
    | (rw [bodySetRate, bodyNamed] at h; exact hs (Option.some.inj h))
    | exact .inl (hb (Option.some.inj h))

/-- A one-frame command always has a body frame to build. -/
theorem bodyFrame_isSome {s : State} (h : isBodyOp s.curOp = true) (hk : s.curOp ≠ Op.keycolors) : bodyFrame s ≠ none := by
  simp only [isBodyOp, Bool.or_eq_true, beq_iff_eq, or_assoc] at h
  intro hn
  rcases h with h | h | h | h | h | h | h | h | h | h
  · rw [bodyFrame_subcommand h] at hn; cases hn
  · exact hk h
  · rw [bodyFrame_setMode h] at hn; cases hn
  · rw [bodyFrame_setBrightness h] at hn; cases hn
  · rw [bodyFrame_setDelay h] at hn; cases hn
  · rw [bodyFrame_setDirection h] at hn; cases hn
  · rw [bodyFrame_setColorful h] at hn; cases hn
  · rw [bodyFrame_setColor h] at hn; cases hn
  · rw [bodyFrame_setRate h] at hn; cases hn
  · rw [bodyFrame_rawFrame h] at hn; cases hn

/-! ### The BUILD step (R118) -/

theorem buildStep_chunk {s : State} (h : s.curOp = Op.keycolors) (hk : s.kcRem ≠ 0) :
    buildStep s = .next (buildChunk s) := by rw [buildStep, if_pos ⟨h, hk⟩]

theorem buildStep_body {s : State} {f : Frame} (h : s.bodyPend = true) (ho : s.curOp ≠ Op.keycolors)
    (hf : bodyFrame s = some (.ok f)) : buildStep s = .next (presentingBody f { s with bodyPend := false }) := by
  rw [buildStep, if_neg (by simp [ho]), if_pos ⟨ho, h⟩, buildBody, hf]; rfl

theorem buildStep_raise {s : State} {e : CmdError} (h : s.bodyPend = true) (ho : s.curOp ≠ Op.keycolors)
    (hf : bodyFrame s = some (.error e)) : buildStep s = .next (takeError e s) := by
  rw [buildStep, if_neg (by simp [ho]), if_pos ⟨ho, h⟩, buildBody, hf]

theorem buildStep_refused {s : State} (h : s.bodyPend = true) (ho : s.curOp ≠ Op.keycolors)
    (hf : bodyFrame s = none) : buildStep s = .refused .noBodyFrame := by
  rw [buildStep, if_neg (by simp [ho]), if_pos ⟨ho, h⟩, buildBody, hf]

theorem buildStep_last {s : State} (h : if s.curOp = Op.keycolors then s.kcRem = 0 else s.bodyPend = false) :
    buildStep s = .next (if s.curWrap then presentEnd s else complete s) := by
  rw [buildStep]
  split_ifs at h with ho
  · rw [if_neg (by simp [h]), if_neg (by simp [ho])]; split <;> rfl
  · rw [if_neg (by simp [ho]), if_neg (by simp [h])]; split <;> rfl

/-- Everything a BUILD step that goes on can do: the next chunk, the one body frame, a builder's raise, END, or completion. -/
theorem buildStep_next {s t : State} (h : buildStep s = .next t) :
    (s.curOp = Op.keycolors ∧ s.kcRem ≠ 0 ∧ t = buildChunk s) ∨
      (s.curOp ≠ Op.keycolors ∧ s.bodyPend = true ∧
        ∃ f, bodyFrame s = some (.ok f) ∧ t = presentBody f { s with bodyPend := false }) ∨
      (s.curOp ≠ Op.keycolors ∧ s.bodyPend = true ∧ ∃ e, bodyFrame s = some (.error e) ∧ t = takeError e s) ∨
      ((if s.curOp = Op.keycolors then s.kcRem = 0 else s.bodyPend = false) ∧
        ((s.curWrap = true ∧ t = presentEnd s) ∨ (s.curWrap = false ∧ t = complete s))) := by
  unfold buildStep at h
  by_cases hk : s.curOp = Op.keycolors ∧ s.kcRem ≠ 0
  · rw [if_pos hk] at h; exact .inl ⟨hk.1, hk.2, (Host.Outcome.next.inj h).symm⟩
  · rw [if_neg hk] at h
    by_cases hb : s.curOp ≠ Op.keycolors ∧ s.bodyPend = true
    · rw [if_pos hb, buildBody] at h
      split at h
      · cases h
      · rename_i e he; exact .inr (.inr (.inl ⟨hb.1, hb.2, e, he, (Host.Outcome.next.inj h).symm⟩))
      · rename_i f hf; exact .inr (.inl ⟨hb.1, hb.2, f, hf, (Host.Outcome.next.inj h).symm⟩)
    · rw [if_neg hb] at h
      refine .inr (.inr (.inr ⟨?_, ?_⟩))
      · split
        · rename_i ho; by_contra hc; exact hk ⟨ho, hc⟩
        · rename_i ho; by_contra hc; exact hb ⟨ho, by simpa using hc⟩
      · split at h
        · rename_i hw; exact .inl ⟨hw, (Host.Outcome.next.inj h).symm⟩
        · rename_i hw; exact .inr ⟨by simpa using hw, (Host.Outcome.next.inj h).symm⟩

end Sys2Proof.Machine
end

