-- ==== Sys2Proof/Laws/Exchange.lean ====
section
/-! SUPPORT. The exchange: what it can answer, what a scheduled or an unscheduled answer gives, and that every frame
instruction is the exchange of its own bytes. -/

namespace Sys2Proof.Machine

/-- A request is presented exactly in the three SEND states with `rst` released (R45, R123). -/
theorem portRequest_some {s : State} {q : PortRequest} :
    s.portRequest = some q ↔
      s.rst = false ∧ (s.seq = .sendStart ∨ s.seq = .sendBody ∨ s.seq = .sendEnd) ∧
        q = ⟨s.fb, s.seq == .sendBody, s.timeoutMs⟩ := by
  unfold State.portRequest
  cases hr : s.rst <;> cases hq : s.seq <;> simp [eq_comm] <;> exact Iff.rfl

theorem portRequest_none {s : State} : s.portRequest = none ↔ s.rst = true ∨ s.seq = .idle ∨ s.seq = .build := by
  unfold State.portRequest
  cases hr : s.rst <;> cases hq : s.seq <;> simp

/-- A draw picks a permitted response (R123). -/
theorem permitted_answerOfDraw (b : Bool) (v : BitVec 2) : permitted b (answerOfDraw b v) = true := by
  cases b
  · unfold answerOfDraw; split_ifs <;> first | rfl | simp_all
  · rfl

/-- Taking an answer changes the inbox and the draw counter alone. -/
theorem takeAnswer_state (b : Bool) (s : State) :
    ∃ i d, (takeAnswer b s).2 = { s with inbox := i, draws := d } := by
  unfold takeAnswer; split
  · exact ⟨_, s.draws, rfl⟩
  · exact ⟨_, _, rfl⟩
  · exact ⟨s.inbox, _, rfl⟩

theorem takeAnswer_scheduled {s : State} {r : Response} {rest : List Event} (b : Bool) (h : s.inbox = .respond r :: rest) :
    takeAnswer b s = (r, { s with inbox := rest }) := by rw [takeAnswer, h]

theorem takeAnswer_free {s : State} (b : Bool) (h : s.inbox = []) :
    takeAnswer b s = (answerOfDraw b (Config.freeAnswer s.draws), { s with draws := s.draws + 1 }) := by
  rw [takeAnswer, h]

theorem takeAnswer_duty {s : State} {rest : List Event} (b : Bool) (h : s.inbox = .duty :: rest) :
    takeAnswer b s =
      (answerOfDraw b (Config.freeAnswer s.draws), { s with inbox := rest, draws := s.draws + 1 }) := by
  rw [takeAnswer, h]

/-- Everything an exchange that goes on can do (R117, R119, R120, R122, R123). -/
theorem exchange_next {f : Frame} {s t : State} (h : exchange f s = .next t) :
    ∃ q i d r, s.portRequest = some q ∧ q.frame = f ∧ permitted q.expectReply r = true ∧
      takeAnswer q.expectReply s = (r, { s with inbox := i, draws := d }) ∧
      t = respond r { s with inbox := i, draws := d, sent := s.sent ++ [⟨s.seq, q, r⟩] } := by
  unfold exchange at h
  split at h
  · cases h
  · rename_i q hq
    split at h
    · cases h
    · rename_i hf
      simp only at h
      split at h
      · rename_i hp
        obtain ⟨i, d, hid⟩ := takeAnswer_state q.expectReply s
        refine ⟨q, i, d, _, hq, by simpa using hf, hp, Prod.ext rfl hid, ?_⟩
        rw [hid] at h
        exact (Host.Outcome.next.inj h).symm
      · cases h

/-- The exchange of a presented frame answered by a permitted response. -/
theorem exchange_answered {s : State} {q : PortRequest} {r : Response} {i : List Event} {d : Nat}
    (hq : s.portRequest = some q) (ha : takeAnswer q.expectReply s = (r, { s with inbox := i, draws := d }))
    (hp : permitted q.expectReply r = true) :
    exchange q.frame s = .next (respond r { s with inbox := i, draws := d, sent := s.sent ++ [⟨s.seq, q, r⟩] }) := by
  rw [exchange, hq]; simp only [ne_eq, not_true_eq_false, if_false, ha, hp, if_true]

/-- The exchange of the presented frame, its answer scheduled. -/
theorem exchange_scheduled {s : State} {r : Response} {rest : List Event} (hr : s.rst = false)
    (hq : s.seq = .sendStart ∨ s.seq = .sendBody ∨ s.seq = .sendEnd) (hi : s.inbox = .respond r :: rest)
    (hp : permitted (s.seq == .sendBody) r = true) : exchange s.fb s = .next (respond r (answeredBy r rest s)) :=
by
  have h := exchange_answered (portRequest_some.2 ⟨hr, hq, rfl⟩) (d := s.draws) (takeAnswer_scheduled _ hi) hp
  exact h

/-- Every frame instruction is the exchange of its own 64 bytes (R45, log 7). -/
theorem exec_frame {i : Instr} {f : Frame} (h : i.asFrame = some f) (s : State) : exec i s = exchange f s := by
  cases i <;> simp only [Instr.asFrame, Option.some.injEq, reduceCtorEq] at h <;> subst h <;>
    simp only [exec, execFrameStart, execFrameEnd, execFrameSubcommand, execFrameSubcommandMode,
      execFrameSubcommandBrightness, execFrameSubcommandDelay, execFrameSubcommandDirection, execFrameSubcommandColorful,
      execFrameSubcommandColor, execFrameSubcommandRate, execFrameKeycolors]

/-! ### The reactions (R117, R119, R120, R122) -/

theorem respond_ok_start {s : State} (h : s.seq = .sendStart) : respond .ok s = startAcked s := by simp [respond, h]
theorem respond_ok_body {s : State} (h : s.seq = .sendBody) : respond .ok s = bodyAckedStep s := by simp [respond, h]
theorem respond_ok_end {s : State} (h : s.seq = .sendEnd) : respond .ok s = endAcked s := by simp [respond, h]
theorem respond_fail {r : Response} (s : State) (h : r ≠ .ok) : respond r s = abort r s := by simp [respond, h]

end Sys2Proof.Machine
end

