-- ==== Sys2Proof/Laws/Interface.lean ====
section
/-! SUPPORT. The requester interface and the step: the register each offset reaches, and what the step is for each move. -/

namespace Sys2Proof.Machine

/-! ### The register an access reaches (R17) -/

theorem regAt_status {a : Offset} (h : a.toNat / 4 = 1) : regAt a = .status := by simp [regAt, h]
theorem regAt_ctrl {a : Offset} (h : a.toNat / 4 = 2) : regAt a = .ctrl := by simp [regAt, h]
theorem regAt_timeoutMs {a : Offset} (h : a.toNat / 4 = 3) : regAt a = .timeoutMs := by simp [regAt, h]
theorem regAt_desc {a : Offset} (h : a.toNat / 4 = 4) : regAt a = .desc := by simp [regAt, h]
theorem regAt_rawcfg {a : Offset} (h : a.toNat / 4 = 5) : regAt a = .rawcfg := by simp [regAt, h]
theorem regAt_kcRange {a : Offset} (h : a.toNat / 4 = 6) : regAt a = .kcRange := by simp [regAt, h]
theorem regAt_lastCksum {a : Offset} (h : a.toNat / 4 = 7) : regAt a = .lastCksum := by simp [regAt, h]

/-- Past the eight single registers the map is three buffers and nothing else (R17, R52). -/
theorem regAt_buffers {a : Offset} (h : 8 ≤ a.toNat / 4) :
    regAt a =
      if h : 16 ≤ a.toNat / 4 ∧ a.toNat / 4 < 32 then .pb ⟨a.toNat / 4 - 16, by omega⟩
      else if h : 32 ≤ a.toNat / 4 ∧ a.toNat / 4 < 48 then .fb ⟨a.toNat / 4 - 32, by omega⟩
      else if h : 128 ≤ a.toNat / 4 ∧ a.toNat / 4 < 254 then .cb ⟨a.toNat / 4 - 128, by omega⟩
      else .unmapped := by
  simp (disch := omega) only [regAt, if_neg]

theorem regAt_pb {a : Offset} (h : 16 ≤ a.toNat / 4 ∧ a.toNat / 4 < 32) : regAt a = .pb ⟨a.toNat / 4 - 16, by omega⟩ := by
  rw [regAt_buffers (by omega), dif_pos h]

theorem regAt_fb {a : Offset} (h : 32 ≤ a.toNat / 4 ∧ a.toNat / 4 < 48) : regAt a = .fb ⟨a.toNat / 4 - 32, by omega⟩ := by
  rw [regAt_buffers (by omega), dif_neg (fun hp => by omega), dif_pos h]

theorem regAt_cb {a : Offset} (h : 128 ≤ a.toNat / 4 ∧ a.toNat / 4 < 254) :
    regAt a = .cb ⟨a.toNat / 4 - 128, by omega⟩ := by
  simp (disch := omega) only [regAt_buffers, dif_neg, dif_pos h]

theorem regAt_unmapped {a : Offset}
    (h : (8 ≤ a.toNat / 4 ∧ a.toNat / 4 < 16) ∨ (48 ≤ a.toNat / 4 ∧ a.toNat / 4 < 128) ∨ 254 ≤ a.toNat / 4) :
    regAt a = .unmapped := by
  simp (disch := omega) only [regAt_buffers, dif_neg]

/-- Every word of the map is one of these. -/
theorem word_cases (a : Offset) :
    a.toNat / 4 = 0 ∨ a.toNat / 4 = 1 ∨ a.toNat / 4 = 2 ∨ a.toNat / 4 = 3 ∨ a.toNat / 4 = 4 ∨ a.toNat / 4 = 5 ∨
      a.toNat / 4 = 6 ∨ a.toNat / 4 = 7 ∨ (16 ≤ a.toNat / 4 ∧ a.toNat / 4 < 32) ∨
      (32 ≤ a.toNat / 4 ∧ a.toNat / 4 < 48) ∨ (128 ≤ a.toNat / 4 ∧ a.toNat / 4 < 254) ∨
      ((8 ≤ a.toNat / 4 ∧ a.toNat / 4 < 16) ∨ (48 ≤ a.toNat / 4 ∧ a.toNat / 4 < 128) ∨ 254 ≤ a.toNat / 4) := by
  omega

/-! ### The step of each scheduled move -/

theorem step_read {s : State} {a : Offset} {rest : List Event} (h : s.inbox = .read a :: rest) :
    step s = .next (requesterRead a { s with inbox := rest }) := by rw [step, nextMove, h]

theorem step_cmd {s : State} {a : Offset} {v : Word} {rest : List Event} (h : s.inbox = .write a v :: rest)
    (ha : a.toNat / 4 = 0) : step s = runRequest v { s with inbox := rest } := by
  rw [step, nextMove, h]; simp only; rw [if_pos (regAt_cmd.2 ha)]

theorem step_write {s : State} {a : Offset} {v : Word} {rest : List Event} (h : s.inbox = .write a v :: rest)
    (ha : a.toNat / 4 ≠ 0) : step s = .next (requesterWrite a v { s with inbox := rest }) := by
  rw [step, nextMove, h]; simp only; rw [if_neg (fun hc => ha (regAt_cmd.1 hc))]

theorem step_rst {s : State} {l : Bool} {rest : List Event} (h : s.inbox = .rst l :: rest) :
    step s = .next (driveReset l { s with inbox := rest }) := by rw [step, nextMove, h]

/-- A write while `rst` is released reaches its register word. -/
theorem requesterWrite_eq {s : State} (a : Offset) (v : Word) (h : s.rst = false) :
    requesterWrite a v s = writeReg v s (regAt a) := by simp [requesterWrite, h]

/-- A request register's write while no command runs lands; while one runs it sets OVR (R22). -/
theorem writeRequest_idle {s : State} (f : State → State) (h : s.busy = false) : writeRequest f s = f s := by
  simp [writeRequest, h]

theorem writeRequest_busy {s : State} (f : State → State) (h : s.busy = true) :
    writeRequest f s = { s with ovr := true } := by simp [writeRequest, h]

/-- The exchange of the frame in FB, whichever row it is, is the exchange of FB (log 7, log 9). -/
theorem runFrame_eq (s : State) : runFrame s = exchange s.fb s := by
  unfold runFrame
  split
  · rename_i i h; exact exec_frame (decodeFrame_ok h) s
  · rfl

/-- The agent that owes a move makes it in s, and u is s once the move is taken from the inbox (R161, log 1). -/
def Owed (s u : State) : Prop := (s.inbox = [] ∧ u = s) ∨ ∃ rest, s.inbox = .duty :: rest ∧ u = { s with inbox := rest }

theorem step_waitIdle {s : State} {rest : List Event} (h : s.inbox = .waitIdle :: rest) :
    step s = .next (pollIdle { s with inbox := rest }) := by rw [step, nextMove, h]

/-- The step in which the agent that owes a move makes it (R146, R147, R161). -/
theorem step_owed {s u : State} (h : Owed s u) :
    step s =
      if s.rst = true ∨ s.seq = .idle then .next u else if s.seq = .build then buildStep u else exchange s.fb s := by
  have hm : nextMove s = dutyMove u s := by
    rcases h with ⟨h, rfl⟩ | ⟨rest, h, rfl⟩ <;> rw [nextMove, h]
  rw [step, hm, dutyMove]
  cases s.rst <;> cases s.seq <;> simp [runFrame_eq]

/-- The step in which the agent that owes a move makes it, when it goes on: nothing, a BUILD step, or an exchange. -/
theorem step_owed_next {s u t : State} (hu : Owed s u) (h : step s = .next t) :
    (t = u ∧ (s.rst = true ∨ s.seq = .idle)) ∨ (s.rst = false ∧ s.seq = .build ∧ buildStep u = .next t) ∨
      (s.portRequest.isSome = true ∧ exchange s.fb s = .next t) := by
  rw [step_owed hu] at h
  split at h
  · rename_i hq
    exact .inl ⟨(Host.Outcome.next.inj h).symm, hq⟩
  · rename_i hq
    obtain ⟨hr, hi⟩ := not_or.1 hq
    rw [Bool.not_eq_true] at hr
    split at h
    · rename_i hb
      exact .inr (.inl ⟨hr, hb, h⟩)
    · rename_i hb
      have hs : s.seq = .sendStart ∨ s.seq = .sendBody ∨ s.seq = .sendEnd := by
        cases hs : s.seq <;> simp_all
      exact .inr (.inr ⟨by rw [portRequest_some.2 ⟨hr, hs, rfl⟩]; rfl, h⟩)

/-- Everything a step that goes on can do. -/
theorem step_next {s t : State} (h : step s = .next t) :
    (Owed s t ∧ (s.rst = true ∨ s.seq = .idle)) ∨
      (∃ u, (Owed s u ∨ ∃ rest, s.inbox = .build :: rest ∧ u = { s with inbox := rest }) ∧ s.rst = false ∧
        s.seq = .build ∧ buildStep u = .next t) ∨
      (s.portRequest.isSome = true ∧ ((∃ u, Owed s u) ∨ ∃ r rest, s.inbox = .respond r :: rest) ∧
        exchange s.fb s = .next t) ∨
      (∃ a rest, s.inbox = .read a :: rest ∧ t = requesterRead a { s with inbox := rest }) ∨
      (∃ rest, s.inbox = .waitIdle :: rest ∧ t = pollIdle { s with inbox := rest }) ∨
      (∃ a v rest, s.inbox = .write a v :: rest ∧ a.toNat / 4 = 0 ∧ runRequest v { s with inbox := rest } = .next t) ∨
      (∃ a v rest, s.inbox = .write a v :: rest ∧ a.toNat / 4 ≠ 0 ∧ t = requesterWrite a v { s with inbox := rest }) ∨
      (∃ l rest, s.inbox = .rst l :: rest ∧ t = driveReset l { s with inbox := rest }) := by
  have owed : ∀ u, Owed s u → (Owed s t ∧ (s.rst = true ∨ s.seq = .idle)) ∨
      ((∃ u, (Owed s u ∨ ∃ rest, s.inbox = .build :: rest ∧ u = { s with inbox := rest }) ∧ s.rst = false ∧
          s.seq = .build ∧ buildStep u = .next t) ∨
        (s.portRequest.isSome = true ∧ ((∃ u, Owed s u) ∨ ∃ r rest, s.inbox = .respond r :: rest) ∧
          exchange s.fb s = .next t)) := fun u hu => by
    rcases step_owed_next hu h with ⟨rfl, hq⟩ | ⟨hr, hb, h⟩ | ⟨hp, h⟩
    · exact .inl ⟨hu, hq⟩
    · exact .inr (.inl ⟨u, .inl hu, hr, hb, h⟩)
    · exact .inr (.inr ⟨hp, .inl ⟨u, hu⟩, h⟩)
  obtain hi | ⟨e, rest, hi⟩ : s.inbox = [] ∨ ∃ e rest, s.inbox = e :: rest := by cases s.inbox <;> simp
  · exact (owed s (.inl ⟨hi, rfl⟩)).imp id (Or.imp id .inl)
  · cases e with
    | duty => exact (owed _ (.inr ⟨rest, hi, rfl⟩)).imp id (Or.imp id .inl)
    | waitIdle =>
      rw [step_waitIdle hi] at h
      exact .inr (.inr (.inr (.inr (.inl ⟨rest, hi, (Host.Outcome.next.inj h).symm⟩))))
    | read a =>
      rw [step_read hi] at h
      exact .inr (.inr (.inr (.inl ⟨a, rest, hi, (Host.Outcome.next.inj h).symm⟩)))
    | write a v =>
      by_cases ha : a.toNat / 4 = 0
      · rw [step_cmd hi ha] at h
        exact .inr (.inr (.inr (.inr (.inr (.inl ⟨a, v, rest, hi, ha, h⟩)))))
      · rw [step_write hi ha] at h
        exact .inr (.inr (.inr (.inr (.inr (.inr (.inl ⟨a, v, rest, hi, ha, (Host.Outcome.next.inj h).symm⟩))))))
    | respond r =>
      rw [step, nextMove, hi] at h; simp only at h
      by_cases hp : s.portRequest.isSome = true
      · rw [if_pos hp] at h; simp only [runFrame_eq] at h
        exact .inr (.inr (.inl ⟨hp, .inr ⟨r, rest, hi⟩, h⟩))
      · rw [if_neg hp] at h; cases h
    | build =>
      rw [step, nextMove, hi] at h; simp only at h
      by_cases hp : s.seq = .build ∧ s.rst = false
      · rw [if_pos hp] at h
        exact .inr (.inl ⟨_, .inr ⟨rest, hi, rfl⟩, hp.2, hp.1, h⟩)
      · rw [if_neg hp] at h; cases h
    | rst l =>
      rw [step_rst hi] at h
      exact .inr (.inr (.inr (.inr (.inr (.inr (.inr ⟨l, rest, hi, (Host.Outcome.next.inj h).symm⟩))))))

end Sys2Proof.Machine
end

