-- ==== Sys2Proof/Laws/PerInstr.lean ====
section
/-! SUPPORT. Statements made for all instructions, one lemma per constructor. Family TableRow: the encoding of an
instruction matches its row of spec/opcode_table.json, the request word of a REQ32 row, the header word H64 of a FRAME64
row (spec/30_encoding.md R57, R73). -/

namespace Sys2Proof

/-- The header word of a frame given by its eight bytes (R73). -/
def headerWord (b0 b1 b2 b3 b4 b5 b6 b7 : Byte) : BitVec 64 := b7 ++ b6 ++ b5 ++ b4 ++ b3 ++ b2 ++ b1 ++ b0

theorem h64_encSubcommand (ck : Half) (d : Descriptor) (a : DataArea) :
    h64 (encSubcommand ck d a) = headerWord 0 (loByte ck) (hiByte ck) 6 d.d0 d.d1 d.d2 d.d3 := by
  simp only [h64, encSubcommand_get]; rfl

theorem h64_encKeycolors (ck : Half) (n : Byte) (o : Half) (d : DataArea) :
    h64 (encKeycolors ck n o d) = headerWord 4 (loByte ck) (hiByte ck) 0x11 n (loByte o) (hiByte o) 0 := by
  simp only [h64, encKeycolors_get]; rfl

/-- Masking a header word masks its bytes. -/
theorem headerWord_and (b0 b1 b2 b3 b4 b5 b6 b7 m0 m1 m2 m3 m4 m5 m6 m7 : Byte) :
    headerWord b0 b1 b2 b3 b4 b5 b6 b7 &&& headerWord m0 m1 m2 m3 m4 m5 m6 m7 =
      headerWord (b0 &&& m0) (b1 &&& m1) (b2 &&& m2) (b3 &&& m3) (b4 &&& m4) (b5 &&& m5) (b6 &&& m6) (b7 &&& m7) := by
  apply BitVec.eq_of_getLsbD_eq; intro i hi
  simp only [headerWord, BitVec.getLsbD_and, BitVec.getLsbD_append]
  repeat' split
  all_goals rfl

theorem byte_and_zero (b : Byte) : b &&& 0 = 0 := BitVec.and_zero

/-- A subcommand frame matches a row that fixes bytes 0 and 3 and the descriptor. -/
theorem named_row (ck : Half) (d : Descriptor) (a : DataArea) :
    h64 (encSubcommand ck d a) &&& 0xFFFFFFFFFF0000FF = headerWord 0 0 0 6 d.d0 d.d1 d.d2 d.d3 := by
  have hm : (0xFFFFFFFFFF0000FF : BitVec 64) = headerWord 0xFF 0 0 0xFF 0xFF 0xFF 0xFF 0xFF := by decide
  rw [h64_encSubcommand, hm, headerWord_and]
  have ones : ∀ b : Byte, b &&& 0xFF = b := fun b => BitVec.and_allOnes
  simp only [ones, byte_and_zero]

end Sys2Proof

namespace Sys2Proof.Laws.TableRow

/-- The instruction's encoding matches its row of the opcode table. -/
def Statement (i : Instr) : Prop := i.tableWord &&& i.tableRow.2 = i.tableRow.1

theorem txnBegin : Statement .txnBegin := by unfold Statement; decide
theorem txnEnd : Statement .txnEnd := by unfold Statement; decide
theorem subcommand (w : Bool) : Statement (.subcommand w) := by unfold Statement; cases w <;> decide
theorem keycolors (w : Bool) : Statement (.keycolors w) := by unfold Statement; cases w <;> decide
theorem setMode (w : Bool) : Statement (.setMode w) := by unfold Statement; cases w <;> decide
theorem setBrightness (w : Bool) : Statement (.setBrightness w) := by unfold Statement; cases w <;> decide
theorem setDelay (w : Bool) : Statement (.setDelay w) := by unfold Statement; cases w <;> decide
theorem setDirection (w : Bool) : Statement (.setDirection w) := by unfold Statement; cases w <;> decide
theorem setColorful (w : Bool) : Statement (.setColorful w) := by unfold Statement; cases w <;> decide
theorem setColor (w : Bool) : Statement (.setColor w) := by unfold Statement; cases w <;> decide
theorem setRate (w : Bool) : Statement (.setRate w) := by unfold Statement; cases w <;> decide
theorem rawFrame (w : Bool) : Statement (.rawFrame w) := by unfold Statement; cases w <;> decide
theorem frameStart : Statement .frameStart := by unfold Statement; decide +kernel
theorem frameEnd : Statement .frameEnd := by unfold Statement; decide +kernel

theorem frameSubcommand (ck : Half) (d : Descriptor) (a : DataArea) : Statement (.frameSubcommand ck d a) := by
  have hm : (0x00000000FF0000FF : BitVec 64) = headerWord 0xFF 0 0 0xFF 0 0 0 0 := by decide
  show h64 (encSubcommand ck d a) &&& 0x00000000FF0000FF = 0x0000000006000000
  rw [h64_encSubcommand, hm, headerWord_and]
  simp only [byte_and_zero]; decide

theorem frameSubcommandMode (ck : Half) (a : Byte) : Statement (.frameSubcommandMode ck a) := named_row ck descMode _
theorem frameSubcommandBrightness (ck : Half) (a : Byte) : Statement (.frameSubcommandBrightness ck a) :=
  named_row ck descBrightness _
theorem frameSubcommandDelay (ck : Half) (a : Byte) : Statement (.frameSubcommandDelay ck a) := named_row ck descDelay _
theorem frameSubcommandDirection (ck : Half) (a : Byte) : Statement (.frameSubcommandDirection ck a) :=
  named_row ck descDirection _
theorem frameSubcommandColorful (ck : Half) (a : Byte) : Statement (.frameSubcommandColorful ck a) :=
  named_row ck descColorful _
theorem frameSubcommandColor (ck : Half) (r g b : Byte) : Statement (.frameSubcommandColor ck r g b) :=
  named_row ck descColor _
theorem frameSubcommandRate (ck : Half) (a : Byte) : Statement (.frameSubcommandRate ck a) := named_row ck descRate _

theorem frameKeycolors (ck : Half) (n : Byte) (o : Half) (d : DataArea) : Statement (.frameKeycolors ck n o d) := by
  have hm : (0xFF000000FF0000FF : BitVec 64) = headerWord 0xFF 0 0 0xFF 0 0 0 0xFF := by decide
  show h64 (encKeycolors ck n o d) &&& 0xFF000000FF0000FF = 0x0000000011000004
  rw [h64_encKeycolors, hm, headerWord_and]
  simp only [byte_and_zero]; decide

end Sys2Proof.Laws.TableRow
end

