-- ==== Sys2Proof/Laws/Unchanged.lean ====
section
/-! SUPPORT. What the shared operations leave unchanged: one lemma each, to be cited where a statement speaks of every
step. -/

namespace Sys2Proof.Machine

/-- An acceptance sends nothing, records no fault and leaves TXN_OPEN, when its start does. -/
theorem accept_unchanged {s : State} {v : Word} {c : State → Option CmdError} {st : State → State}
    (h : ∀ u, (st u).sent = u.sent ∧ (st u).faultMarks = u.faultMarks ∧ (st u).txnOpen = u.txnOpen) :
    (accept v c st s).sent = s.sent ∧ (accept v c st s).faultMarks = s.faultMarks ∧
      (accept v c st s).txnOpen = s.txnOpen := by
  rcases accept_cases v c st s with ⟨_, h2⟩ | ⟨_, _, h2⟩ | ⟨e, _, _, _, h3⟩ | ⟨_, _, _, h3⟩
  · rw [h2]; exact ⟨rfl, rfl, rfl⟩
  · rw [h2]; exact ⟨rfl, rfl, rfl⟩
  · rw [h3]; exact ⟨rfl, rfl, rfl⟩
  · rw [h3]
    obtain ⟨a, b, d⟩ := h (latchWord v (storeWord v s))
    exact ⟨a, b, d⟩

/-- A write to CMD sends nothing, records no fault and leaves TXN_OPEN. -/
theorem runRequest_unchanged {v : Word} {s t : State} (h : runRequest v s = .next t) :
    t.sent = s.sent ∧ t.faultMarks = s.faultMarks ∧ t.txnOpen = s.txnOpen := by
  unfold runRequest at h
  split at h
  · rename_i i hi
    have hr := decodeRequest_ok hi
    cases i <;> simp only [Instr.asRequest, reduceCtorEq] at hr <;> obtain rfl := Host.Outcome.next.inj h <;>
      apply accept_unchanged <;> intro u
    any_goals exact ⟨rfl, rfl, rfl⟩
    all_goals (rename_i w; cases w <;> exact ⟨rfl, rfl, rfl⟩)
  · obtain rfl := Host.Outcome.next.inj h
    exact accept_unchanged fun _ => ⟨rfl, rfl, rfl⟩

/-- A requester write to another word sends nothing, records no fault and leaves TXN_OPEN. -/
theorem requesterWrite_unchanged (a : Offset) (v : Word) (s : State) :
    (requesterWrite a v s).sent = s.sent ∧ (requesterWrite a v s).faultMarks = s.faultMarks ∧
      (requesterWrite a v s).txnOpen = s.txnOpen := by
  unfold requesterWrite
  split
  · exact ⟨rfl, rfl, rfl⟩
  · cases regAt a <;> simp only [writeReg, writeRequest, clearStatus, writeCtrl] <;>
      first | exact ⟨rfl, rfl, rfl⟩ | simp only [and_self] | (split <;> exact ⟨rfl, rfl, rfl⟩)

/-- A turn of `wait_idle` hands over STATUS and changes no register; it is repeated exactly when the value read has BUSY
= 1 (R53, R75). -/
theorem pollIdle_unchanged (s : State) :
    SameRegisters s (pollIdle s) ∧ (pollIdle s).sent = s.sent ∧
      (pollIdle s).reads = s.reads ++ [⟨0x004, readWord 0x004 s⟩] ∧
      (pollIdle s).inbox = if (readWord 0x004 s).getLsbD 0 then waitBehind s.inbox else s.inbox := by
  unfold pollIdle
  simp only
  split <;>
    simp [SameRegisters, SameRequest, SameChunker, SameFrame, SameLatches, SameStatus, requesterRead]

/-- A BUILD step sends nothing, leaves TXN_OPEN and keeps the faults recorded before it. -/
theorem buildStep_unchanged {s t : State} (h : buildStep s = .next t) :
    t.sent = s.sent ∧ t.txnOpen = s.txnOpen ∧ s.faultMarks <+: t.faultMarks := by
  rcases buildStep_next h with ⟨_, _, rfl⟩ | ⟨_, _, f, _, rfl⟩ | ⟨_, _, e, _, rfl⟩ | ⟨_, ⟨_, rfl⟩ | ⟨_, rfl⟩⟩
  · exact ⟨rfl, rfl, List.prefix_append _ _⟩
  all_goals exact ⟨rfl, rfl, List.prefix_rfl⟩

/-- The reaction to a response records nothing and writes no request register. -/
theorem respond_unchanged (r : Response) (s : State) :
    (respond r s).sent = s.sent ∧ (respond r s).faultMarks = s.faultMarks ∧ SameRequest s (respond r s) := by
  unfold respond
  split
  · cases s.seq <;> simp only
    · simp [SameRequest]
    · unfold startAcked; simp only; split <;> simp [SameRequest]
    · simp [SameRequest]
    · unfold bodyAckedStep; simp only; split <;> simp [SameRequest]
    · simp [SameRequest]
  · simp [SameRequest, abort]

/-- TXN_OPEN after the reaction to a response: set by OK to START, kept by OK to a body frame, cleared otherwise. -/
theorem respond_txnOpen (r : Response) {s : State} (hs : s.seq = .sendStart ∨ s.seq = .sendBody ∨ s.seq = .sendEnd) :
    (respond r s).txnOpen =
      (if s.seq = .sendStart then r == .ok else if s.seq = .sendBody then s.txnOpen && r == .ok else false) := by
  unfold respond
  split
  · rename_i h
    subst h
    rcases hs with h | h | h <;> simp only [h]
    · unfold startAcked; simp only; split <;> simp
    · unfold bodyAckedStep; simp only; split <;> simp
    · simp
  · rename_i hr
    have : (r == .ok) = false := by simpa using hr
    rcases hs with h | h | h <;> simp [abort, h, this]

end Sys2Proof.Machine
end

