-- ==== Sys2Proof/Tests/Slice0.lean ====
section
/-! SUPPORT. The model's own tests. Words, frames and STATUS values are copied from the spec (spec/30_encoding.md,
spec/95_test_vectors.md, whose entry is named), never from the model. One theorem is elaborated after another, so that
the kernel's evaluations do not run side by side. At the end, for every statement with hypotheses, a
witness that meets them together. -/

namespace Sys2Proof.Tests

set_option Elab.async false

open Sys2Proof Sys2Proof.Machine

/-! ### Helpers -/

/-- The next state of an outcome, the reset state where there is none. -/
def nextOf : Result → State
  | .next t => t
  | .fault _ => State.reset
  | .refused _ => State.reset

/-- The outcome is a next state. -/
def isNext : Result → Bool
  | .next _ => true
  | .fault _ => false
  | .refused _ => false

/-- The outcome is the fault of a move its agent does not have. -/
def isStuck : Result → Bool
  | .next _ => false
  | .fault .noMove => true
  | .refused _ => false

/-- STATUS after a step that answers a next state. -/
def statusAfter (s : State) : Option Word :=
  match step s with
  | .next t => some t.statusWord
  | .fault _ => none
  | .refused _ => none

/-- The value of a decoding that gives an instruction. -/
def got (r : Except DecodeError Instr) : Option Instr :=
  match r with
  | .ok i => some i
  | .error _ => none

/-- IDLE, no transaction open. -/
def closed : State := State.reset

/-- IDLE, a transaction open. -/
def opened : State := { State.reset with txnOpen := true }

/-- s with the requester's write of a request word to CMD next. -/
def requesting (v : Word) (s : State) : State := { s with inbox := [.write 0x000 v] }

/-- SEND_BODY of the command op presenting the sealed frame f, answered r next. -/
def sending (op : Byte) (f : Frame) (r : Response) : State :=
  { opened with
    busy := true, seq := .sendBody, curOp := op, fb := f, acc := frameChecksumField f, lastCksum := frameChecksumField f
    inbox := [.respond r] }

/-- SEND_START presenting START for the command op with WRAP = wrap, answered r next. -/
def sendingStart (op : Byte) (wrap : Bool) (r : Response) : State :=
  { presentingStart closed with busy := true, curOp := op, curWrap := wrap, inbox := [.respond r] }

/-- SEND_END presenting END for the command op with WRAP = wrap, answered r next. -/
def sendingEnd (op : Byte) (wrap : Bool) (r : Response) : State :=
  { presentingEnd opened with busy := true, curOp := op, curWrap := wrap, inbox := [.respond r] }

/-- The frame of V2.2: MODE 3. -/
def modeFrame : Frame := frameOfBytes [0x00, 0x0A, 0x00, 0x06, 0x01, 0x00, 0x00, 0x00, 0x03]

/-- BUILD of the one-frame command op with its frame still to build, PB holding the given bytes. -/
def building (op : Byte) (bs : List Byte) : State :=
  { opened with busy := true, seq := .build, curOp := op, bodyPend := true, pb := frameOfBytes bs }

/-- BUILD of KEYCOLORS with `pos` keys sent and `rem` to come from key `base`; every CB entry written, entry i holding
(i, i + 16, 128), as spec/95_test_vectors.md V6 has it. -/
def chunking (base pos rem : Byte) : State :=
  { opened with
    busy := true, seq := .build, curOp := 0x11, kcBase := base, kcPos := pos, kcRem := rem
    cb := Vector.ofFn fun i => ⟨⟨BitVec.ofNat 8 i.val, BitVec.ofNat 8 (i.val + 16), 0x80⟩, true⟩ }

/-! ### Well-formedness: a term each check refuses -/

/-- Written as SUBCOMMAND although a named row describes it. -/
theorem test_wf_canonical :
    (Instr.frameSubcommand 10 ⟨1, 0, 0, 0⟩ (dataArea [3])).canonical = false ∧
      (Instr.frameSubcommand 10 ⟨1, 0, 0, 0⟩ (dataArea [3])).wf = false ∧
      (Instr.frameSubcommand 14 ⟨1, 0, 0, 0⟩ (dataArea [3, 4])).wf = true := by decide +kernel

/-- A wrong checksum field, on a row of each shape. -/
theorem test_wf_sealed :
    (Instr.frameSubcommandMode 11 3).wf = false ∧ (Instr.frameSubcommandMode 10 3).wf = true ∧
      (Instr.frameSubcommandColor 396 255 0 128).wf = false ∧ (Instr.frameSubcommandColor 397 255 0 128).wf = true ∧
      (Instr.frameSubcommand 113 ⟨1, 2, 3, 4⟩ (dataArea [0x10, 0x20, 0x30])).wf = false ∧
      (Instr.frameKeycolors 0x00F3 3 375 (dataArea [0x11, 0x22, 0x33])).wf = false := by decide +kernel

/-- A byte count that is no multiple of 3, none at all, more than 18 keys. -/
theorem test_wf_count :
    keycolorsShape 4 0 (dataArea []) = false ∧ keycolorsShape 0 0 (dataArea []) = false ∧
      keycolorsShape 57 0 (dataArea []) = false ∧ keycolorsShape 54 0 (dataArea []) = true := by decide +kernel

/-- A byte offset that is no multiple of 3, a key past 125, a byte after the last colour. -/
theorem test_wf_offset :
    keycolorsShape 3 1 (dataArea []) = false ∧ keycolorsShape 6 375 (dataArea []) = false ∧
      keycolorsShape 3 375 (dataArea []) = true ∧ keycolorsShape 3 0 (dataArea [1, 2, 3, 4]) = false := by decide +kernel

/-! ### Decoding: words written out from the spec -/

/-- R57: OP in bits 7:0, WRAP in bit 8. -/
theorem test_decode_transactions :
    got (decodeRequest 0x00000001) = some .txnBegin ∧ got (decodeRequest 0x00000002) = some .txnEnd := by decide +kernel

/-- R57, R58: each body command with WRAP 0 and 1. -/
theorem test_decode_generic_commands :
    got (decodeRequest 0x00000006) = some (.subcommand false) ∧ got (decodeRequest 0x00000106) = some (.subcommand true) ∧
      got (decodeRequest 0x00000011) = some (.keycolors false) ∧ got (decodeRequest 0x00000111) = some (.keycolors true) ∧
      got (decodeRequest 0x00000030) = some (.rawFrame false) ∧ got (decodeRequest 0x00000130) = some (.rawFrame true) := by
  decide +kernel

/-- R57: the named settings, OP 0x20 to 0x26. -/
theorem test_decode_settings :
    got (decodeRequest 0x00000020) = some (.setMode false) ∧ got (decodeRequest 0x00000121) = some (.setBrightness true) ∧
      got (decodeRequest 0x00000022) = some (.setDelay false) ∧ got (decodeRequest 0x00000123) = some (.setDirection true) ∧
      got (decodeRequest 0x00000024) = some (.setColorful false) ∧ got (decodeRequest 0x00000125) = some (.setColor true) ∧
      got (decodeRequest 0x00000026) = some (.setRate false) := by decide +kernel

/-- V7.1 to V7.8: the illegal words. -/
theorem test_decode_illegal_words :
    ([0x00000000, 0x00000003, 0x000000FF, 0x00000101, 0x00000102, 0x00000220, 0x80000120, 0x00000211] : List Word).map
        (fun v => got (decodeRequest v)) =
      [none, none, none, none, none, none, none, none] := by decide +kernel

/-- R65, R66: START and END. -/
theorem test_decode_start_end :
    got (decodeFrame (frameOfBytes [0x00, 0x01, 0x00, 0x01])) = some .frameStart ∧
      got (decodeFrame (frameOfBytes [0x00, 0x02, 0x00, 0x02])) = some .frameEnd := by decide +kernel

/-- V2.2, V2.5, V2.8. -/
theorem test_decode_mode_brightness_delay :
    got (decodeFrame (frameOfBytes [0x00, 0x0A, 0x00, 0x06, 0x01, 0x00, 0x00, 0x00, 0x03])) =
        some (.frameSubcommandMode 10 3) ∧
      got (decodeFrame (frameOfBytes [0x00, 0x0C, 0x00, 0x06, 0x01, 0x01, 0x00, 0x00, 0x04])) =
        some (.frameSubcommandBrightness 12 4) ∧
      got (decodeFrame (frameOfBytes [0x00, 0x0B, 0x00, 0x06, 0x01, 0x02, 0x00, 0x00, 0x02])) =
        some (.frameSubcommandDelay 11 2) := by decide +kernel

/-- V2.10, V2.12, V2.14, V2.18. -/
theorem test_decode_direction_colorful_color_rate :
    got (decodeFrame (frameOfBytes [0x00, 0x09, 0x01, 0x06, 0x01, 0x03, 0x00, 0x00, 0xFF])) =
        some (.frameSubcommandDirection 265 0xFF) ∧
      got (decodeFrame (frameOfBytes [0x00, 0x0C, 0x00, 0x06, 0x01, 0x04, 0x00, 0x00, 0x01])) =
        some (.frameSubcommandColorful 12 1) ∧
      got (decodeFrame (frameOfBytes [0x00, 0x8D, 0x01, 0x06, 0x03, 0x05, 0x00, 0x00, 0xFF, 0x00, 0x80])) =
        some (.frameSubcommandColor 397 0xFF 0x00 0x80) ∧
      got (decodeFrame (frameOfBytes [0x00, 0x17, 0x00, 0x06, 0x01, 0x0F, 0x00, 0x00, 0x01])) =
        some (.frameSubcommandRate 23 1) := by decide +kernel

/-- V2.23 and V6.3; byte 5 of a key-color frame is the low byte of the offset. -/
theorem test_decode_subcommand_keycolors :
    got (decodeFrame (frameOfBytes [0x00, 0x70, 0x00, 0x06, 0x01, 0x02, 0x03, 0x04, 0x10, 0x20, 0x30])) =
        some (.frameSubcommand 112 ⟨1, 2, 3, 4⟩ (dataArea [0x10, 0x20, 0x30])) ∧
      got (decodeFrame (frameOfBytes [0x04, 0xF2, 0x00, 0x11, 0x03, 0x77, 0x01, 0x00, 0x11, 0x22, 0x33])) =
        some (.frameKeycolors 0x00F2 3 375 (dataArea [0x11, 0x22, 0x33])) := by decide +kernel

/-- V3.4, V3.6: no row of the opcode table describes these frames; a tag the row does not have is refused. -/
theorem test_decode_refused_frames :
    got (decodeFrame (frameOfBytes [0x12, 0x34, 0x00, 0x34])) = none ∧
      got (decodeFrame (frameOfBytes [0x04, 0x01, 0x00, 0x01])) = none ∧
      got (decodeFrame (frameOfBytes [0x00, 0x02, 0x00, 0x01])) = none := by decide +kernel

/-- The opcode table's words: a request word, and the frames whose fixed bytes the table gives in 32 or 64 bits. -/
theorem test_table_words :
    decodeTableWord 32 0x00000020 = some (.setMode false) ∧ decodeTableWord 32 0x01000100 = some .frameStart ∧
      decodeTableWord 32 0x06000000 = some (.frameSubcommand 0 ⟨0, 0, 0, 0⟩ (dataArea [])) ∧
      decodeTableWord 64 0x0000010106000000 = some (.frameSubcommandBrightness 0 0) ∧
      decodeTableWord 32 0x11000004 = some (.frameKeycolors 0 0 0 (dataArea [])) ∧
      decodeTableWord 32 0x00000003 = none := by decide +kernel

/-- Placing a word puts it where the next step runs it, from the state after reset. -/
theorem test_placed_words_run :
    statusAfter (State.reset.withFetchWord 32 0x00000120) = some 0x01000001 ∧
      statusAfter (State.reset.withFetchWord 32 0x01000100) = some 0x02000003 ∧
      statusAfter (State.reset.withFetchWord 32 0x06000000) = some 0x02010001 := by decide +kernel

/-! ### Frames, checksum, chunks -/

/-- V1.5, V1.6, V1.7, V1.10: the payload over tag and command, at the end, and past the end. -/
theorem test_control_frame :
    (buildControlFrame 0x09 0x30 [0xAB] 63).toOption.map (·[63]) = some 0xAB ∧
      (buildControlFrame 0x09 0x30 [] 64).toOption = some (frameOfBytes [0x09, 0, 0, 0x30]) ∧
      (buildControlFrame 0x09 0x30 [] 65).toOption = none ∧
      (buildControlFrame 0x07 0x09 [0xAA, 0xBB, 0xCC, 0xDD] 0).toOption =
        some (frameOfBytes [0xAA, 0xBB, 0xCC, 0xDD]) := by decide +kernel

/-- V4.2, V4.3, V4.4, V4.5. -/
theorem test_checksum :
    checksum (frameOfBytes [0, 0, 0, 2]) = (0x02, 0x00) ∧
      checksum (Vector.replicate 64 0xFF) = (0xC3, 0x3C) ∧ checksum (frameOfBytes [0xFF, 0x12, 0x34, 0x01]) = (0x01, 0x00) ∧
      checksum ((Vector.replicate 64 0).set 63 0xFF) = (0xFF, 0x00) := by decide +kernel

/-- V5.8, V5.16, V5.17, V5.20, V5.21. -/
theorem test_clamped_count :
    clampedCount 0 127 = 126 ∧ clampedCount 125 5 = 1 ∧ clampedCount 126 0 = 0 ∧ clampedCount 200 5 = 0 ∧
      clampedCount 65535 65535 = 0 := by decide +kernel

/-- V5.10: the seven frames of 125 keys from key 1. -/
theorem test_chunk_plan :
    chunkPlan 7 1 125 = [(1, 18), (19, 18), (37, 18), (55, 18), (73, 18), (91, 18), (109, 17)] := by decide +kernel

/-- V6.2: the second frame of 19 keys. -/
theorem test_second_chunk :
    (nextOf (step (chunking 0 18 1))).fb =
      frameOfBytes [0x04, 0xFE, 0x00, 0x11, 0x03, 0x36, 0x00, 0x00, 0x12, 0x22, 0x80] := by decide +kernel

/-- V3.2, V3.9: a raw frame's payload lies over tag and command, never over the checksum. -/
theorem test_raw_frame_overlap :
    ((nextOf (step { building 0x30 [] with pb := Vector.replicate 64 0xFF, rawcfg := 0xFFFF0040 })).fb.toList.take 4 =
        [0xFF, 0xC3, 0x3C, 0xFF]) ∧
      (nextOf (step { building 0x30 [0xAA, 0xBB, 0xCC, 0xDD] with rawcfg := 0x09070004 })).fb =
        frameOfBytes [0xAA, 0xDD, 0x00, 0xDD] := by decide +kernel

/-- V2.3, V2.14, V2.19: a named setting's frame. -/
theorem test_setting_frames :
    (nextOf (step (building 0x20 [0xFF]))).fb = frameOfBytes [0x00, 0x06, 0x01, 0x06, 0x01, 0x00, 0x00, 0x00, 0xFF] ∧
      (nextOf (step (building 0x25 [0xFF, 0x00, 0x80, 0x77]))).fb =
        frameOfBytes [0x00, 0x8D, 0x01, 0x06, 0x03, 0x05, 0x00, 0x00, 0xFF, 0x00, 0x80] ∧
      (nextOf (step (building 0x26 [0xFF]))).fb = frameOfBytes [0x00, 0x15, 0x01, 0x06, 0x01, 0x0F, 0x00, 0x00, 0xFF] := by
  decide +kernel

/-- V2.23, V2.20: a SUBCOMMAND's frame; PLEN, not PB, bounds the argument. -/
theorem test_subcommand_frame :
    (nextOf (step { building 0x06 [0x10, 0x20, 0x30, 0x40] with desc := 0x04030201, rawcfg := 3 })).fb =
        frameOfBytes [0x00, 0x70, 0x00, 0x06, 0x01, 0x02, 0x03, 0x04, 0x10, 0x20, 0x30] ∧
      (nextOf (step { building 0x06 [0x55] with desc := 1, rawcfg := 0 })).fb =
        frameOfBytes [0x00, 0x07, 0x00, 0x06, 0x01] := by decide +kernel

/-! ### Request words: one step -/

/-- V7.25, V7.9. -/
theorem test_txn_begin :
    statusAfter (requesting 0x00000001 closed) = some 0x01000001 ∧
      statusAfter (requesting 0x00000001 opened) = some 0x00000046 := by decide +kernel

/-- V7.26, V7.10. -/
theorem test_txn_end :
    statusAfter (requesting 0x00000002 opened) = some 0x04000003 ∧
      statusAfter (requesting 0x00000002 closed) = some 0x00000144 := by decide +kernel

/-- V7.16, V7.15, V7.18. -/
theorem test_subcommand :
    statusAfter (requesting 0x00000106 { closed with rawcfg := 0x38 }) = some 0x01000001 ∧
      statusAfter (requesting 0x00000106 { closed with rawcfg := 0x39 }) = some 0x00000114 ∧
      statusAfter (requesting 0x00000106 { opened with rawcfg := 0x39 }) = some 0x00000246 := by decide +kernel

/-- V7.21, V7.20, V7.22. -/
theorem test_raw_frame :
    statusAfter (requesting 0x00000130 { closed with rawcfg := 0x3C04 }) = some 0x01000001 ∧
      statusAfter (requesting 0x00000130 { closed with rawcfg := 0x3C05 }) = some 0x00000014 ∧
      statusAfter (requesting 0x00000130 { closed with rawcfg := 0x4100 }) = some 0x00000014 := by decide +kernel

/-- V7.29, V7.14; KC_START = 125, KC_COUNT = 5 clamps to one key (V5.16). -/
theorem test_keycolors :
    statusAfter (requesting 0x00000111 { closed with rawcfg := 0x3C05 }) = some 0x01000001 ∧
      statusAfter (requesting 0x00000011 closed) = some 0x00000344 ∧
      (nextOf (step (requesting 0x00000011 { opened with kcRange := 0x0005007D }))).kcRem = 1 := by decide +kernel

/-- V7.28, V7.11, V7.12 for SET_MODE. -/
theorem test_set_mode :
    statusAfter (requesting 0x00000020 opened) = some 0x02000003 ∧
      statusAfter (requesting 0x00000120 opened) = some 0x00000246 ∧
      statusAfter (requesting 0x00000020 closed) = some 0x00000344 := by decide +kernel

/-- R115, R116: the other settings start as SET_MODE does. -/
theorem test_other_settings :
    ([0x121, 0x122, 0x123, 0x124, 0x125, 0x126] : List Word).map (fun v => statusAfter (requesting v closed)) =
        List.replicate 6 (some 0x01000001) ∧
      ([0x21, 0x22, 0x23, 0x24, 0x25, 0x26] : List Word).map (fun v => statusAfter (requesting v closed)) =
        List.replicate 6 (some 0x00000344) := by decide +kernel

/-- V7.1 to V7.8: illegal words, ahead of every other check (V7.19). -/
theorem test_illegal_words_end_at_once :
    ([0x00000000, 0x00000003, 0x000000FF, 0x00000101, 0x00000220, 0x80000120] : List Word).map
          (fun v => statusAfter (requesting v closed)) = List.replicate 6 (some 0x00000034) ∧
      ([0x00000102, 0x00000211, 0x00000306] : List Word).map
          (fun v => statusAfter (requesting v { opened with rawcfg := 0x39 })) = List.replicate 3 (some 0x00000036) ∧
      (nextOf (step (requesting 0x00000003 closed))).cmd = 0x00000003 := by decide +kernel

/-! ### Frames: one exchange -/

/-- V8.1, V9.1, V9.3. -/
theorem test_frame_start :
    statusAfter (sendingStart 0x01 false .ok) = some 0x00000006 ∧
      statusAfter (sendingStart 0x01 false .writeFail) = some 0x00000024 ∧
      statusAfter (sendingStart 0x20 true .writeFail) = some 0x00000024 := by decide +kernel

/-- V8.2, V9.2, V9.7. -/
theorem test_frame_end :
    statusAfter (sendingEnd 0x02 false .ok) = some 0x00000004 ∧
      statusAfter (sendingEnd 0x02 false .writeFail) = some 0x00000824 ∧
      statusAfter { sendingEnd 0x20 true .writeFail with bodyAcked := 1 } = some 0x00010824 := by decide +kernel

/-- V9.4, V9.5, V9.6 on the frame of V2.2. -/
theorem test_frame_mode_failures :
    ([Response.writeFail, .readTimeout, .readFail]).map (fun r => statusAfter (sending 0x20 modeFrame r)) =
      [some 0x00000424, some 0x00000524, some 0x00000624] := by decide +kernel

/-- V8.4, the SEND_BODY step of it on the frames of V2.2, V2.5, V2.8, V2.10: BUILD with one frame acknowledged. -/
theorem test_frame_settings_acknowledged :
    statusAfter (sending 0x20 modeFrame .ok) =
        some 0x02010003 ∧
      statusAfter (sending 0x21 (frameOfBytes [0x00, 0x0C, 0x00, 0x06, 0x01, 0x01, 0x00, 0x00, 0x04]) .ok) =
        some 0x02010003 ∧
      statusAfter (sending 0x22 (frameOfBytes [0x00, 0x0B, 0x00, 0x06, 0x01, 0x02, 0x00, 0x00, 0x02]) .ok) =
        some 0x02010003 ∧
      statusAfter (sending 0x23 (frameOfBytes [0x00, 0x09, 0x01, 0x06, 0x01, 0x03, 0x00, 0x00, 0xFF]) .ok) =
        some 0x02010003 := by decide +kernel

/-- The same on the frames of V2.12, V2.14, V2.18, V2.23, and on a START frame that RAW_FRAME sends (V3.3). -/
theorem test_frame_others_acknowledged :
    statusAfter (sending 0x24 (frameOfBytes [0x00, 0x0C, 0x00, 0x06, 0x01, 0x04, 0x00, 0x00, 0x01]) .ok) =
        some 0x02010003 ∧
      statusAfter (sending 0x25 (frameOfBytes [0x00, 0x8D, 0x01, 0x06, 0x03, 0x05, 0x00, 0x00, 0xFF, 0x00, 0x80]) .ok) =
        some 0x02010003 ∧
      statusAfter (sending 0x26 (frameOfBytes [0x00, 0x17, 0x00, 0x06, 0x01, 0x0F, 0x00, 0x00, 0x01]) .ok) =
        some 0x02010003 ∧
      statusAfter (sending 0x06 (frameOfBytes [0x00, 0x70, 0x00, 0x06, 0x01, 0x02, 0x03, 0x04, 0x10, 0x20, 0x30]) .ok) =
        some 0x02010003 ∧
      statusAfter (sending 0x30 (frameOfBytes [0x00, 0x01, 0x00, 0x01]) .ok) = some 0x02010003 := by decide +kernel

/-- V9.9 and the SEND_BODY step of V8.6: the chunker advances on OK alone. -/
theorem test_frame_keycolors :
    let f := frameOfBytes [0x04, 0xF2, 0x00, 0x11, 0x03, 0x77, 0x01, 0x00, 0x11, 0x22, 0x33]
    let s := { sending 0x11 f .ok with kcRem := 1, kcN := 1, kcPos := 18, bodyAcked := 1 }
    (nextOf (step s)).kcRem = 0 ∧ (nextOf (step s)).kcPos = 19 ∧ statusAfter s = some 0x02020003 ∧
      statusAfter { s with inbox := [.respond .readFail] } = some 0x00010624 := by decide +kernel

/-! ### The register interface and reset -/

/-- V10.1 to V10.4. -/
theorem test_write_one_to_clear :
    statusAfter { closed with done := true, err := .illegalRequest, inbox := [.write 0x004 0x4] } = some 0x00000030 ∧
      statusAfter { closed with done := true, ovr := true, inbox := [.write 0x004 0x8] } = some 0x00000004 ∧
      statusAfter { closed with done := true, ovr := true, inbox := [.write 0x004 0x0] } = some 0x0000000C ∧
      statusAfter { opened with done := true, ovr := true, inbox := [.write 0x004 0xFFFFFFFF] } = some 0x00000002 := by
  decide +kernel

/-- V10.5 to V10.9: OVR, and the write ignored. -/
theorem test_writes_while_busy :
    let s := building 0x20 [3]
    let after := fun a v => nextOf (step { s with inbox := [.write a v] })
    (after 0x040 7).pb[0] = 3 ∧ (after 0x040 7).ovr = true ∧ (after 0x000 0x120).cmd = 0 ∧ (after 0x000 0x120).ovr = true ∧
      (after 0x008 1).irqEn = true ∧ (after 0x008 1).ovr = false ∧ (after 0x080 5).ovr = false ∧
      (after 0x020 5).ovr = false := by decide +kernel

/-- V10.11 to V10.15. -/
theorem test_irq :
    ({ closed with irqEn := true, done := true } : State).irq = true ∧
      (nextOf (step { closed with irqEn := true, done := true, inbox := [.write 0x004 0x4] })).irq = false ∧
      (nextOf (step { closed with done := true, inbox := [.write 0x008 1] })).irq = true ∧
      (nextOf (step (requesting 0x120 { closed with irqEn := true, done := true }))).irq = false ∧
      (nextOf (step (requesting 0x020 { closed with irqEn := true }))).irq = true := by decide +kernel

/-- V11.1, V11.2. -/
theorem test_request_register_bytes :
    let s := nextOf (step { closed with inbox := [.write 0x040 0x44332211] })
    let t := nextOf (step { closed with inbox := [.write 0x214 0xFF804020] })
    readWord 0x040 s = 0x44332211 ∧ s.pb.toList.take 4 = [0x11, 0x22, 0x33, 0x44] ∧ readWord 0x214 t = 0x00804020 ∧
      t.cb[5] = ⟨⟨0x20, 0x40, 0x80⟩, true⟩ := by decide +kernel

/-- V11.4, V11.5 and R50: offset bits 1:0 are ignored. -/
theorem test_reads_after_reset :
    ([0x020, 0x0C0, 0x3F8, 0x00C, 0x00F, 0x004] : List Offset).map (fun a => readWord a State.reset) =
      [0, 0, 0, 0x3E8, 0x3E8, 0] := by decide +kernel

/-- R147, R149, R150: a running command ends with nothing sent, the fault mark stays, a late response has no move. -/
theorem test_reset_while_sending :
    let s := { sending 0x20 encStart .ok with faultMarks := [.unwrittenColour 3], inbox := [.rst true, .respond .ok] }
    let t := nextOf (step s)
    t.seq = .idle ∧ t.txnOpen = false ∧ t.done = false ∧ t.sent = [] ∧ t.faultMarks = [.unwrittenColour 3] ∧
      isStuck (step t) = true := by decide +kernel

/-! ### `wait_idle` and the moves owed -/

/-- R75: while BUSY = 1 STATUS is read again, after the next move of another agent; after P1's last exchange it reads
0x00010004 and the wait ends. -/
theorem test_wait_idle :
    let busy := { sending 0x20 modeFrame .ok with inbox := [.waitIdle, .respond .ok, .read 0x01C] }
    let idle := { closed with done := true, bodyAcked := 1, inbox := [.waitIdle, .read 0x01C] }
    (nextOf (step busy)).inbox = [.respond .ok, .waitIdle, .read 0x01C] ∧
      (nextOf (step busy)).reads = [⟨0x004, 0x03000003⟩] ∧ (nextOf (step idle)).inbox = [.read 0x01C] ∧
      (nextOf (step idle)).reads = [⟨0x004, 0x00010004⟩] := by decide +kernel

/-- R161: a listed duty is the encoder's BUILD step, and nothing in IDLE; with no other move listed `wait_idle` waits for
it. -/
theorem test_duty :
    (nextOf (step { building 0x20 [3] with inbox := [.duty, .waitIdle] })).seq = .sendBody ∧
      (nextOf (step { building 0x20 [3] with inbox := [.waitIdle] })).inbox = [.duty, .waitIdle] ∧
      (nextOf (step { closed with inbox := [.duty] })) = closed := by decide +kernel

/-! ### Witnesses: the hypotheses of each statement, met together -/

/-- An outcome that is a next state has one. -/
theorem next_of_isNext {r : Result} (h : isNext r = true) : r = .next (nextOf r) := by
  cases r with
  | next t => rfl
  | fault e => cases h
  | refused e => cases h

/-- BUILD of SET_MODE. -/
def modeToBuild : State := building 0x20 [3]

/-- BUILD of KEYCOLORS for keys 0 to 18, as accepted with KC_START = 0 and KC_COUNT = 19, all colours written, every
exchange to be answered OK. -/
def nineteenKeys : State := { chunking 0 0 19 with kcRange := 0x00130000, inbox := chunkScript 2 ++ [] }

theorem witness_DecodeEncodeIsIdentity :
    (Instr.frameSubcommandMode 10 3).canonical = true ∧ (Instr.frameSubcommandMode 10 3).wf = true ∧
      (Instr.txnBegin).wf = true := by decide +kernel

theorem witness_EncodeDecodeIsIdentity :
    decode [0x20, 0x01, 0x00, 0x00] = .ok (.setMode true) ∧ decode modeFrame.toList = .ok (.frameSubcommandMode 10 3) := by
  decide +kernel

theorem witness_StepRunsTheRequestWord :
    (requesting 0x120 closed).inbox = [.write 0 0x120] ∧ decodeRequest 0x120 = .ok (.setMode true) ∧
      ({ closed with inbox := [.write 3 0x3] } : State).inbox = [.write 3 0x3] ∧ (3 : Offset).toNat / 4 = 0 ∧
      decodeRequest 0x3 = .error .unknownOp := by decide +kernel

theorem witness_StepRunsThePresentedFrame :
    (sending 0x20 modeFrame .ok).portRequest.isSome = true ∧ decodeFrame modeFrame = .ok (.frameSubcommandMode 10 3) ∧
      (sending 0x20 modeFrame .ok).inbox = [.respond .ok] ∧
      ({ sending 0x20 modeFrame .ok with inbox := [.duty] } : State).inbox = [.duty] ∧
      ({ sending 0x30 (frameOfBytes [0x12, 0x34, 0, 0x34]) .ok with inbox := [] } : State).portRequest.isSome = true ∧
      decodeFrame (frameOfBytes [0x12, 0x34, 0, 0x34]) = .error .noFrameRow := by decide +kernel

theorem witness_StepTakesTheBuildMove :
    modeToBuild.rst = false ∧ modeToBuild.seq = .build ∧ modeToBuild.inbox = [] ∧
      ({ modeToBuild with inbox := [.build] } : State).inbox = [.build] ∧
      ({ modeToBuild with inbox := [.duty] } : State).inbox = [.duty] ∧ closed.rst = false ∧ closed.seq = .idle ∧
      closed.inbox = [] := by decide +kernel

theorem witness_TxnBeginPresentsStart : closed.rst = false ∧ closed.busy = false ∧ closed.txnOpen = false := by
  decide +kernel

theorem witness_TxnEndPresentsEnd : opened.rst = false ∧ opened.busy = false ∧ opened.txnOpen = true := by
  decide +kernel

/-- Both WRAP bits; PLEN = 56 and POFF = 8 are the last lengths that fit. -/
theorem witness_OneFrameCommandsStart :
    let s : State := { closed with rawcfg := 0x0838 }
    s.rst = false ∧ s.busy = false ∧ s.txnOpen = !true ∧ opened.txnOpen = !false ∧
      8 + (s.rawcfg.extractLsb' 0 8).toNat = 64 ∧
      (s.rawcfg.extractLsb' 8 8).toNat + (s.rawcfg.extractLsb' 0 8).toNat = 64 := by decide +kernel

theorem witness_KeycolorsStarts :
    closed.rst = false ∧ closed.busy = false ∧ closed.txnOpen = !true ∧ opened.txnOpen = !false := by decide +kernel

theorem witness_IllegalWordsEndAtOnce :
    (requesting 0x3 closed).rst = false ∧ (requesting 0x3 closed).busy = false ∧
      (requesting 0x3 closed).inbox = [.write 0 0x3] ∧ decodeRequest 0x3 = .error .unknownOp := by decide +kernel

theorem witness_SequenceErrorsEndAtOnce :
    opened.rst = false ∧ opened.busy = false ∧ opened.txnOpen = true ∧ closed.rst = false ∧ closed.busy = false ∧
      closed.txnOpen = false := by decide +kernel

/-- One byte more than fits, for either WRAP bit. -/
theorem witness_SizeErrorsEndAtOnce :
    let s : State := { closed with rawcfg := 0x0839 }
    let t : State := { opened with rawcfg := 0x0839 }
    s.rst = false ∧ s.busy = false ∧ s.txnOpen = !true ∧ 8 + (s.rawcfg.extractLsb' 0 8).toNat = 65 ∧
      (s.rawcfg.extractLsb' 8 8).toNat + (s.rawcfg.extractLsb' 0 8).toNat = 65 ∧
      t.rst = false ∧ t.busy = false ∧ t.txnOpen = !false := by decide +kernel

theorem witness_AcceptanceFollowsThePseudocode :
    closed.rst = false ∧ closed.busy = false ∧ closed.seq = .idle ∧ modeToBuild.rst = false ∧ modeToBuild.busy = true := by
  decide +kernel

/-- Accepted, refused with an error, and ignored while a command runs. -/
theorem witness_RequestsLeaveTheRestUnchanged :
    (Instr.setMode true).asRequest.isSome = true ∧ (∃ t, exec (.setMode true) closed = .next t) ∧ closed.busy = false ∧
      (∃ t, exec (.setMode true) opened = .next t ∧ t.err ≠ .none) ∧
      (∃ t, exec (.keycolors true) modeToBuild = .next t) ∧ modeToBuild.busy = true :=
  ⟨rfl, ⟨_, next_of_isNext (by decide +kernel)⟩, rfl, ⟨_, next_of_isNext (by decide +kernel), by decide +kernel⟩,
    ⟨_, next_of_isNext (by decide +kernel)⟩, rfl⟩

theorem witness_BuildSendsTheNamedSetting :
    ∀ op ∈ ([0x20, 0x21, 0x22, 0x23, 0x24, 0x25, 0x26] : List Byte),
      (building op [3]).bodyPend = true ∧ (building op [3]).curOp = op := by decide +kernel

theorem witness_BuildSendsTheGenericFrame :
    let s : State := { building 0x06 [1] with rawcfg := 0x0838 }
    let t : State := { building 0x30 [1] with rawcfg := 0x0838 }
    s.bodyPend = true ∧ s.curOp = 0x06#8 ∧ 8 + (s.rawcfg.extractLsb' 0 8).toNat = 64 ∧ t.bodyPend = true ∧
      t.curOp = 0x30#8 ∧ (t.rawcfg.extractLsb' 8 8).toNat + (t.rawcfg.extractLsb' 0 8).toNat = 64 := by decide +kernel

/-- The first 18 of 19 keys, and the last one. -/
theorem witness_BuildSendsTheNextChunk :
    ((chunking 0 0 19).curOp = 0x11#8 ∧ (chunking 0 0 19).kcRem ≠ 0 ∧
        ∀ j, j < min (chunking 0 0 19).kcRem.toNat 18 →
          ∃ e, (chunking 0 0 19).cb[(chunking 0 0 19).kcPos.toNat + j]? = some e ∧ e.written = true) ∧
      (chunking 0 18 1).curOp = 0x11#8 ∧ (chunking 0 18 1).kcRem ≠ 0 ∧
        ∀ j, j < min (chunking 0 18 1).kcRem.toNat 18 →
          ∃ e, (chunking 0 18 1).cb[(chunking 0 18 1).kcPos.toNat + j]? = some e ∧ e.written = true := by
  refine ⟨⟨rfl, by decide +kernel, fun j hj => ?_⟩, rfl, by decide +kernel, fun j hj => ?_⟩
  · have hj : j < 18 := Nat.lt_of_lt_of_le hj (Nat.min_le_right _ _)
    exact ⟨_, Vector.getElem?_eq_getElem (show 0 + j < 126 by omega) |>.trans rfl, by simp [chunking]⟩
  · have hj : j < 18 := Nat.lt_of_lt_of_le hj (Nat.min_le_right _ _)
    exact ⟨_, Vector.getElem?_eq_getElem (show 18 + j < 126 by omega) |>.trans rfl, by simp [chunking]⟩

/-- Colour 0 written, colour 1 not. -/
theorem witness_UnwrittenColourIsRecorded :
    let s : State := { chunking 0 0 2 with cb := State.reset.cb.set 0 ⟨⟨1, 2, 3⟩, true⟩ }
    s.curOp = 0x11#8 ∧ s.kcRem ≠ 0 ∧ s.cbWritten 0 = true ∧ s.cbWritten 1 = false := by decide +kernel

theorem witness_BuildEndsTheCommand :
    (if (chunking 0 19 0).curOp = 0x11#8 then (chunking 0 19 0).kcRem = 0 else (chunking 0 19 0).bodyPend = false) ∧
      (let s : State := { modeToBuild with bodyPend := false, curWrap := true }
       if s.curOp = 0x11#8 then s.kcRem = 0 else s.bodyPend = false) := by decide +kernel

theorem witness_NamedSettingEqualsSubcommand :
    (∀ d : Word, ({ closed with rawcfg := 1, desc := d } : State).rawcfg = 1 ∧
        ({ closed with rawcfg := 1, desc := d } : State).desc = d) ∧
      ({ closed with rawcfg := 1 } : State).plen = 1 ∧ ({ closed with rawcfg := 3 } : State).plen = 3 :=
  ⟨fun _ => ⟨rfl, rfl⟩, by decide +kernel, by decide +kernel⟩

theorem witness_StartFrameAcknowledged :
    ∀ op ∈ ([0x01, 0x20] : List Byte),
      (sendingStart op true .ok).rst = false ∧ (sendingStart op true .ok).seq = .sendStart ∧
        (sendingStart op true .ok).fb = frameOfBytes [0, 1, 0, 1] ∧ (sendingStart op true .ok).inbox = [.respond .ok] ∧
        (sendingStart op true .ok).curOp = op :=
  fun _ _ => ⟨rfl, rfl, rfl, rfl, rfl⟩

theorem witness_EndFrameAcknowledged :
    (sendingEnd 0x02 false .ok).rst = false ∧ (sendingEnd 0x02 false .ok).seq = .sendEnd ∧
      (sendingEnd 0x02 false .ok).fb = frameOfBytes [0, 2, 0, 2] ∧ (sendingEnd 0x02 false .ok).inbox = [.respond .ok] :=
  ⟨rfl, rfl, rfl, rfl⟩

/-- Whatever frame FB holds: the eleven rows' frames among them. -/
theorem witness_BodyFramesAcknowledged :
    ∀ f : Frame, (sending 0x11 f .ok).rst = false ∧ (sending 0x11 f .ok).seq = .sendBody ∧
      (sending 0x11 f .ok).inbox = [.respond .ok] ∧ (sending 0x11 f .ok).fb = f :=
  fun _ => ⟨rfl, rfl, rfl, rfl⟩

/-- Each phase with each failure it has. -/
theorem witness_FailedExchangeAborts :
    ((sendingStart 0x20 true .writeFail).rst = false ∧ (sendingStart 0x20 true .writeFail).seq = .sendStart) ∧
      (∀ r ∈ [Response.writeFail, .readTimeout, .readFail],
        (sending 0x20 modeFrame r).rst = false ∧ (sending 0x20 modeFrame r).seq = .sendBody ∧
          (sending 0x20 modeFrame r).inbox = [.respond r]) ∧
      (sendingEnd 0x20 true .writeFail).rst = false ∧ (sendingEnd 0x20 true .writeFail).seq = .sendEnd := by
  decide +kernel

theorem witness_UnscheduledExchangeIsAnswered :
    let s : State := { sending 0x11 encStart .ok with inbox := [] }
    Instr.frameStart.asFrame = some s.fb ∧ s.portRequest = some ⟨encStart, true, 1000⟩ ∧ s.inbox = [] :=
  ⟨rfl, rfl, rfl⟩

theorem witness_ResponseWithoutAMoveIsStuck :
    ({ closed with inbox := [.respond .ok] } : State).portRequest = none ∧
      (sendingStart 0x20 true .readTimeout).inbox = [.respond .readTimeout] ∧
      (sendingStart 0x20 true .readTimeout).seq = .sendStart ∧
      (sendingEnd 0x20 true .readFail).inbox = [.respond .readFail] ∧ (sendingEnd 0x20 true .readFail).seq = .sendEnd :=
  ⟨rfl, rfl, rfl, rfl, rfl⟩

theorem witness_FramesLeaveTheRestUnchanged :
    (Instr.frameStart).asFrame.isSome = true ∧ ∃ t, exec .frameStart (sendingStart 0x20 true .writeFail) = .next t :=
  ⟨rfl, ⟨_, next_of_isNext (by decide +kernel)⟩⟩

/-- No payload at offset 65, and at offset 64. -/
theorem witness_ControlFrameBytes : 65 + ([] : List Byte).length > 64 ∧ 64 + ([] : List Byte).length ≤ 64 := by
  decide +kernel

theorem witness_SubcommandFrameRoundTrip :
    ([1, 2, 3, 4] : List Byte).length = 4 ∧ (List.replicate 57 (0xFF : Byte)).length > 56 ∧
      (List.replicate 56 (0xFF : Byte)).length ≤ 56 := by decide +kernel

/-- Eighteen keys up to key 125, and key 125 alone. -/
theorem witness_KeyColorFrameBytes :
    ((List.replicate 18 (⟨1, 2, 3⟩ : Colour)).length = 18 ∧ 1 ≤ 18 ∧ 18 ≤ 18 ∧ 108 + 18 ≤ 126) ∧
      ([⟨1, 2, 3⟩] : List Colour).length = 1 ∧ 1 ≤ 1 ∧ 1 ≤ 18 ∧ 125 + 1 ≤ 126 := by decide +kernel

theorem witness_ChecksumIsTheByteSum :
    ∀ i (_ : i < 64), 3 ≤ i → (frameOfBytes [0, 0, 0, 1])[i] = (frameOfBytes [0xFF, 0x12, 0x34, 1])[i] := by
  decide +kernel

theorem witness_SealIsSelfConsistent : Sealed modeFrame := by unfold Sealed; decide +kernel

theorem witness_ClampedCountIsTheMinimum : 127 > 126 ∧ 126 ≤ 126 ∧ clampedCount 125 5 > 0 := by decide +kernel

theorem witness_ChunkPlanIsExhaustive : 126 ≤ 126 ∧ (chunkPlan 7 0 126).length = 7 ∧ (chunkPlan 7 0 0).length = 0 := by
  decide +kernel

/-- The state of nineteen keys meets the invariant. -/
theorem nineteenKeys_inv : nineteenKeys.Inv := by
  constructor
  case fb_sealed => unfold Sealed; decide +kernel
  all_goals decide +kernel

theorem witness_KeycolorsSendsItsWholePlan :
    nineteenKeys.Inv ∧ nineteenKeys.seq = .build ∧ nineteenKeys.curOp = 0x11#8 ∧ nineteenKeys.kcPos = 0 ∧
      nineteenKeys.bodyAcked = 0 ∧ (∀ j, j < nineteenKeys.clamped → nineteenKeys.cbWritten j = true) ∧
      nineteenKeys.inbox = chunkScript (chunkPlan 7 nineteenKeys.kcStart.toNat nineteenKeys.clamped).length ++ [] :=
  ⟨nineteenKeys_inv, rfl, rfl, rfl, rfl, by decide +kernel, by decide +kernel⟩

/-- Every request offset range at its ends, while a command runs and while none does; and every other range. -/
theorem witness_BusyWritesSetOverrun :
    (∀ a ∈ ([0x000, 0x003, 0x00C, 0x01B, 0x040, 0x07F, 0x200, 0x3F7] : List Offset),
        let w := a.toNat / 4
        w = 0 ∨ (3 ≤ w ∧ w ≤ 6) ∨ (16 ≤ w ∧ w < 32) ∨ (128 ≤ w ∧ w < 254)) ∧
      (∀ a ∈ ([0x008, 0x00B, 0x01C, 0x03F, 0x080, 0x1FF, 0x3F8, 0x3FF] : List Offset),
        let w := a.toNat / 4
        ¬ (w = 0 ∨ (3 ≤ w ∧ w ≤ 6) ∨ (16 ≤ w ∧ w < 32) ∨ (128 ≤ w ∧ w < 254)) ∧ w ≠ 1) ∧
      (let s : State := { modeToBuild with inbox := [.write 0x040 7] }
       s.rst = false ∧ s.busy = true ∧ s.inbox = [.write 0x040 7]) ∧
      (let s : State := { closed with ovr := true, inbox := [.write 0x004 8] }
       isNext (step s) = true ∧ s.ovr = true ∧ (nextOf (step s)).ovr = false) := by decide +kernel

theorem witness_StatusBitsClearByWritingOne :
    let s : State := { closed with done := true, ovr := true, inbox := [.write 0x007 0xC] }
    s.rst = false ∧ s.inbox = [.write 0x007 0xC] ∧ (0x007 : Offset).toNat / 4 = 1 := by decide +kernel

theorem witness_IrqFollowsEnableAndDone :
    let s : State := { closed with done := true, irqEn := true }
    let w := fun a : Offset => a.toNat / 4
    s.rst = false ∧ ({ s with inbox := [.write 0x00B 1] } : State).inbox = [.write 0x00B 1] ∧ w 0x008 = 2 ∧ w 0x00B = 2 ∧
      ({ s with inbox := [.write 0x004 4] } : State).inbox = [.write 0x004 4] ∧ w 0x004 = 1 ∧ w 0x007 = 1 ∧
      (4 : Word).getLsbD 2 = true ∧
      ({ s with inbox := [.write 0x000 0x120] } : State).inbox = [.write 0x000 0x120] ∧ w 0x000 = 0 ∧ s.busy = false ∧
      specValidate 0x120 s = none := by decide +kernel

theorem witness_ReadsHaveNoSideEffect :
    ({ modeToBuild with inbox := [.read 0x080] } : State).inbox = [.read 0x080] := by decide +kernel

/-- Every range of the map at both ends. -/
theorem witness_ReadsFollowTheMap :
    let w := fun a : Offset => a.toNat / 4
    closed.rst = false ∧ closed.busy = false ∧ w 0x000 = 0 ∧ w 0x004 = 1 ∧ w 0x008 = 2 ∧ w 0x00C = 3 ∧ w 0x010 = 4 ∧
      w 0x014 = 5 ∧ w 0x018 = 6 ∧ w 0x01C = 7 ∧ w 0x020 = 8 ∧ w 0x03F = 15 ∧ w 0x040 = 16 ∧ w 0x07F = 31 ∧ w 0x080 = 32 ∧
      w 0x0BF = 47 ∧ w 0x0C0 = 48 ∧ w 0x1FF = 127 ∧ w 0x200 = 128 ∧ w 0x3F7 = 253 ∧ w 0x3F8 = 254 ∧
      (chunking 0 0 1).cbWritten 125 = true := by decide +kernel

theorem witness_RequestRegistersReadBack :
    let w := fun a : Offset => a.toNat / 4
    let s : State := { closed with inbox := [.write 0x3F4 0xFF804020] }
    s.rst = false ∧ s.busy = false ∧ s.inbox = [.write 0x3F4 0xFF804020] ∧ w 0x3F4 = 253 ∧ w 0x200 = 128 ∧ w 0x040 = 16 ∧
      w 0x07C = 31 ∧ w 0x00C = 3 ∧ w 0x010 = 4 ∧ w 0x014 = 5 ∧ w 0x018 = 6 := by decide +kernel

theorem witness_ReadOnlyWordsIgnoreWrites :
    let w := fun a : Offset => a.toNat / 4
    ({ closed with inbox := [.write 0x01C 5] } : State).inbox = [.write 0x01C 5] ∧ w 0x01C = 7 ∧ w 0x03C = 15 ∧
      w 0x080 = 32 ∧ w 0x1FC = 127 ∧ w 0x3F8 = 254 ∧ w 0x3FF = 255 := by decide +kernel

theorem witness_ResetValues :
    let s : State := { State.reset with rst := true, inbox := [.rst false] }
    s.rst = true ∧ s.inbox = [.rst false] := by decide +kernel

theorem witness_ResetWithdrawsTheRequest :
    ({ sending 0x20 modeFrame .ok with inbox := [.rst true, .respond .ok] } : State).inbox = [.rst true, .respond .ok] :=
  rfl

theorem witness_HeldInResetNothingMoves :
    let s : State := { State.reset with rst := true }
    s.rst = true ∧ s.inbox = [] ∧ ({ s with inbox := [.write 0 1] } : State).inbox = [.write 0 1] ∧
      ({ s with inbox := [.read 0] } : State).inbox = [.read 0] ∧ ({ s with inbox := [.build] } : State).inbox = [.build] := by
  decide +kernel

/-- SEND_START of a wrapped SET_MODE meets the invariant. -/
theorem sendingStart_inv : (sendingStart 0x20 true .ok).Inv := by
  constructor
  case fb_sealed => unfold Sealed; decide +kernel
  all_goals decide +kernel

/-- SEND_BODY of SET_MODE meets the invariant. -/
theorem sending_inv : (sending 0x20 modeFrame .ok).Inv := by
  constructor
  case fb_sealed => unfold Sealed; decide +kernel
  all_goals decide +kernel

/-- SEND_END of TXN_END meets the invariant. -/
theorem sendingEnd_inv : (sendingEnd 0x02 false .ok).Inv := by
  constructor
  case fb_sealed => unfold Sealed; decide +kernel
  all_goals decide +kernel

/-- BUILD of SET_MODE meets the invariant. -/
theorem modeToBuild_inv : modeToBuild.Inv := by
  constructor
  case fb_sealed => unfold Sealed; decide +kernel
  all_goals decide +kernel

theorem witness_StepKeepsTheInvariant :
    (sendingStart 0x20 true .ok).Inv ∧ ∃ t, step (sendingStart 0x20 true .ok) = .next t :=
  ⟨sendingStart_inv, _, next_of_isNext (by decide +kernel)⟩

/-- START sent with no transaction open; a body frame and END sent in one that START opened. -/
theorem witness_ExchangesFormTransactions :
    ((sendingStart 0x20 true .ok).Inv ∧ (sendingStart 0x20 true .ok).Shaped ∧
        (nextOf (step (sendingStart 0x20 true .ok))).sent =
          (sendingStart 0x20 true .ok).sent ++ [⟨.sendStart, ⟨frameOfBytes [0, 1, 0, 1], false, 1000⟩, .ok⟩]) ∧
      shape [⟨.sendStart, ⟨modeFrame, false, 0⟩, .ok⟩, ⟨.sendBody, ⟨modeFrame, true, 0⟩, .ok⟩,
        ⟨.sendEnd, ⟨modeFrame, false, 0⟩, .ok⟩] = some false ∧
      shape [⟨.sendBody, ⟨modeFrame, true, 0⟩, .ok⟩] = none :=
  ⟨⟨sendingStart_inv, ⟨false, rfl, by decide +kernel⟩, by decide +kernel⟩, rfl, rfl⟩

theorem witness_EveryFrameSentIsSealed :
    ((sending 0x20 modeFrame .ok).Inv ∧ ∃ t, step (sending 0x20 modeFrame .ok) = .next t) ∧
      (sendingEnd 0x02 false .ok).Inv ∧ ∃ t, step (sendingEnd 0x02 false .ok) = .next t :=
  ⟨⟨sending_inv, _, next_of_isNext (by decide +kernel)⟩, sendingEnd_inv, _, next_of_isNext (by decide +kernel)⟩

theorem witness_FaultMarkIsNeverCleared :
    let s : State := { closed with faultMarks := [.unwrittenColour 3], inbox := [.rst true] }
    ∃ t, step s = .next t :=
  ⟨_, next_of_isNext (by decide +kernel)⟩

theorem witness_TxnOpenFollowsTheExchanges :
    (∃ t, step (sendingStart 0x01 false .ok) = .next t ∧ (sendingStart 0x01 false .ok).txnOpen = false ∧ t.txnOpen = true) ∧
      ∃ t, step { opened with inbox := [.rst true] } = .next t ∧ opened.txnOpen = true ∧ t.txnOpen = false :=
  ⟨⟨_, next_of_isNext (by decide +kernel), rfl, by decide +kernel⟩,
    ⟨_, next_of_isNext (by decide +kernel), rfl, by decide +kernel⟩⟩

theorem witness_OperandsAreFixedWhileBusy :
    let s : State := { modeToBuild with inbox := [.write 0x040 7] }
    s.busy = true ∧ (∀ l rest, s.inbox ≠ .rst l :: rest) ∧ ∃ t, step s = .next t :=
  ⟨rfl, fun _ _ h => by simp at h, _, next_of_isNext (by decide +kernel)⟩

/-- A state of a run, in which a step goes on; and the moves that are none: BUILD in SEND_BODY, READ_FAIL to END, a
response in IDLE. -/
theorem witness_InvariantStatesStep :
    (sending 0x20 modeFrame .ok).Inv ∧ isStuck (step { sending 0x20 modeFrame .ok with inbox := [.build] }) = true ∧
      isStuck (step (sendingEnd 0x02 false .readFail)) = true ∧
      isStuck (step { closed with inbox := [.respond .ok] }) = true :=
  ⟨sending_inv, by decide +kernel, by decide +kernel, by decide +kernel⟩

theorem witness_EveryCommandEnds :
    modeToBuild.Inv ∧ modeToBuild.rst = false ∧ modeToBuild.inbox = [] ∧ modeToBuild.busy = true :=
  ⟨modeToBuild_inv, rfl, rfl, rfl⟩

/-- STATUS read with BUSY = 1, and a whole wait of a state that meets the invariant. -/
theorem witness_AssemblyExpandsAsListed :
    ({ modeToBuild with inbox := [.waitIdle] } : State).inbox = [.waitIdle] ∧
      State.Inv { modeToBuild with inbox := [.waitIdle] } ∧
      ({ modeToBuild with inbox := [.waitIdle] } : State).rst = false := by
  refine ⟨rfl, ?_, rfl⟩
  constructor
  case fb_sealed => unfold Sealed; decide +kernel
  all_goals decide +kernel

theorem witness_BuiltFramesAreWellFormed :
    modeToBuild.Inv ∧ modeToBuild.seq = .build ∧ modeToBuild.curOp ≠ 0x30#8 ∧
      ∃ t, buildStep modeToBuild = .next t ∧ t.seq ≠ .idle :=
  ⟨modeToBuild_inv, rfl, by decide +kernel, _, next_of_isNext (by decide +kernel), by decide +kernel⟩

end Sys2Proof.Tests
end

namespace Sys2Proof.Machine

/-! ## Acceptance of any request word (R114 to R116) -/

/-- The words that decode to no instruction are those that `Validate` calls illegal (R59, R115). -/
theorem illegal_of_decodeRequest_error {v : Word} {e : DecodeError} (h : decodeRequest v = .error e) :
    inOpMap (wordOp v) = false ∨ wordReserved v ≠ 0 ∨
      ((wordOp v = Op.txnBegin ∨ wordOp v = Op.txnEnd) ∧ wordWrap v = true) := by
  by_contra hc
  simp only [not_or, not_and, Bool.not_eq_true, Bool.not_eq_false, not_not, ne_eq] at hc
  obtain ⟨hm, hr, hw⟩ := hc
  simp only [inOpMap, isBodyOp, Bool.or_eq_true, beq_iff_eq, or_assoc] at hm
  rw [← requestWord_fields v hr, decodeRequest_requestWord] at h
  rcases hm with ho | ho | ho | ho | ho | ho | ho | ho | ho | ho | ho | ho
  · simp [ho, hw (.inl ho)] at h
  · simp [ho, hw (.inr ho)] at h
  all_goals simp [ho] at h

theorem specValidate_of_decodeRequest_error {v : Word} {e : DecodeError} (h : decodeRequest v = .error e) (s : State) :
    specValidate v s = some ⟨.illegalRequest, 0⟩ :=
  if_pos (illegal_of_decodeRequest_error h)

/-- `Validate` over the fields of the word (R115). -/
theorem specValidate_fields (v : Word) (s : State) :
    specValidate v s =
      if inOpMap (wordOp v) = false ∨ wordReserved v ≠ 0 ∨
          ((wordOp v = Op.txnBegin ∨ wordOp v = Op.txnEnd) ∧ wordWrap v = true) then some ⟨.illegalRequest, 0⟩
      else if wordOp v = Op.txnBegin ∧ s.txnOpen = true then some (sequenceError 0)
      else if wordOp v = Op.txnEnd ∧ s.txnOpen = false then some (sequenceError 1)
      else if isBodyOp (wordOp v) = true ∧ wordWrap v = true ∧ s.txnOpen = true then some (sequenceError 2)
      else if isBodyOp (wordOp v) = true ∧ wordWrap v = false ∧ s.txnOpen = false then some (sequenceError 3)
      else if wordOp v = Op.subcommand ∧ 8 + s.plen.toNat > 64 then some (payloadTooLarge 1)
      else if wordOp v = Op.rawFrame ∧ s.poff.toNat + s.plen.toNat > 64 then some (payloadTooLarge 0)
      else none := rfl

/-- `Start` over the fields of the word (R116). -/
theorem specStart_fields (v : Word) (s : State) :
    specStart v s =
      if wordOp v = Op.txnBegin then presentStart s
      else if wordOp v = Op.txnEnd then presentEnd s
      else enterBody (wordWrap v) (if wordOp v = Op.keycolors then chunkInit s else { s with bodyPend := true }) := rfl

theorem ne_txn_of_isBodyOp {op : Byte} (h : isBodyOp op = true) : op ≠ Op.txnBegin ∧ op ≠ Op.txnEnd := by
  constructor <;> rintro rfl <;> exact absurd h (by decide)

/-- `Validate` of a body command is the sequence check, then the check of its length (R115). -/
theorem specValidate_body {op : Byte} (w : Bool) (s : State) (h : isBodyOp op = true) :
    specValidate (requestWord op w) s =
      match checkBody w s with
      | some e => some e
      | none =>
        if op = Op.subcommand ∧ 8 + s.plen.toNat > 64 then some (payloadTooLarge 1)
        else if op = Op.rawFrame ∧ s.poff.toNat + s.plen.toNat > 64 then some (payloadTooLarge 0) else none := by
  obtain ⟨h1, h2⟩ := ne_txn_of_isBodyOp h
  rw [specValidate_fields, wordOp_requestWord, wordWrap_requestWord, wordReserved_requestWord]
  cases w <;> cases ht : s.txnOpen <;> simp [inOpMap, checkBody, h, h1, h2, ht]

/-! ### Each command's check is `Validate` of its word, its start is `Start` -/

theorem checkTxnBegin_eq : checkTxnBegin = specValidate (requestWord Op.txnBegin false) := by
  funext s
  rw [specValidate_fields, wordOp_requestWord, wordWrap_requestWord, wordReserved_requestWord]
  cases h : s.txnOpen <;> simp [checkTxnBegin, h, inOpMap, isBodyOp]

theorem checkTxnEnd_eq : checkTxnEnd = specValidate (requestWord Op.txnEnd false) := by
  funext s
  rw [specValidate_fields, wordOp_requestWord, wordWrap_requestWord, wordReserved_requestWord]
  cases h : s.txnOpen <;> simp [checkTxnEnd, h, inOpMap, isBodyOp]

theorem checkBody_eq {op : Byte} (w : Bool) (h : isBodyOp op = true) (h6 : op ≠ Op.subcommand) (h30 : op ≠ Op.rawFrame) :
    checkBody w = specValidate (requestWord op w) := by
  funext s
  rw [specValidate_body w s h, if_neg (fun hc => h6 hc.1), if_neg (fun hc => h30 hc.1)]
  cases checkBody w s <;> rfl

theorem checkSubcommand_eq (w : Bool) : checkSubcommand w = specValidate (requestWord Op.subcommand w) := by
  funext s
  rw [specValidate_body w s (by decide), checkSubcommand]
  cases checkBody w s <;> simp

theorem checkRawFrame_eq (w : Bool) : checkRawFrame w = specValidate (requestWord Op.rawFrame w) := by
  funext s
  rw [specValidate_body w s (by decide), checkRawFrame]
  cases checkBody w s <;> simp

theorem presentStart_eq_specStart : presentStart = specStart (requestWord Op.txnBegin false) := by
  funext s; rw [specStart_fields, wordOp_requestWord, if_pos rfl]

theorem presentEnd_eq_specStart : presentEnd = specStart (requestWord Op.txnEnd false) := by
  funext s; rw [specStart_fields, wordOp_requestWord, if_neg (by decide), if_pos rfl]

theorem startKeycolors_eq (w : Bool) : startKeycolors w = specStart (requestWord Op.keycolors w) := by
  funext s; rw [specStart_fields, wordOp_requestWord, if_neg (by decide), if_neg (by decide), if_pos rfl, wordWrap_requestWord,
    startKeycolors]

theorem startOneFrame_eq {op : Byte} (w : Bool) (h : isBodyOp op = true) (hk : op ≠ Op.keycolors) :
    startOneFrame w = specStart (requestWord op w) := by
  obtain ⟨h1, h2⟩ := ne_txn_of_isBodyOp h
  funext s
  rw [specStart_fields, wordOp_requestWord, if_neg h1, if_neg h2, if_neg hk, wordWrap_requestWord, startOneFrame]

/-- Every request instruction is the acceptance of its word by the spec's `Validate` and `Start` (R114 to R116). -/
theorem exec_request {i : Instr} {v : Word} (h : i.asRequest = some v) (s : State) :
    exec i s = .next (accept v (specValidate v) (specStart v) s) := by
  have named : ∀ (op : Byte) (w : Bool), isBodyOp op = true ∧ op ≠ Op.subcommand ∧ op ≠ Op.rawFrame ∧ op ≠ Op.keycolors →
      accept (requestWord op w) (checkBody w) (startOneFrame w) s =
        accept (requestWord op w) (specValidate (requestWord op w)) (specStart (requestWord op w)) s := by
    rintro op w ⟨hb, h6, h30, hk⟩
    rw [checkBody_eq w hb h6 h30, startOneFrame_eq w hb hk]
  cases i <;> simp only [Instr.asRequest, Option.some.injEq, reduceCtorEq] at h <;> subst h <;>
    refine congrArg Host.Outcome.next ?_
  case txnBegin => rw [checkTxnBegin_eq, presentStart_eq_specStart]
  case txnEnd => rw [checkTxnEnd_eq, presentEnd_eq_specStart]
  case subcommand w => rw [checkSubcommand_eq, startOneFrame_eq (op := Op.subcommand) w (by decide) (by decide)]
  case keycolors w => rw [checkBody_eq (op := Op.keycolors) w (by decide) (by decide) (by decide), startKeycolors_eq]
  case rawFrame w => rw [checkRawFrame_eq, startOneFrame_eq (op := Op.rawFrame) w (by decide) (by decide)]
  all_goals exact named _ _ (by decide)

/-- Every write to CMD, legal or not, is acceptance by the spec's `Validate` and `Start` (R18, R59, R114 to R116). -/
theorem runRequest_eq (v : Word) (s : State) : runRequest v s = .next (accept v (specValidate v) (specStart v) s) := by
  unfold runRequest
  split
  · rename_i i h
    exact exec_request (decodeRequest_ok h) s
  · rename_i e h
    rw [rejectWord]
    by_cases hr : s.rst = true
    · rw [accept_rst v _ _ hr, accept_rst v _ _ hr]
    rw [Bool.not_eq_true] at hr
    by_cases hb : s.busy = true
    · rw [accept_busy v _ _ hr hb, accept_busy v _ _ hr hb]
    rw [Bool.not_eq_true] at hb
    rw [accept_err v _ hr hb rfl, accept_err v _ hr hb (specValidate_of_decodeRequest_error h s)]

/-- `Accept` of a word that passes `Validate` (R114). -/
theorem specAccept_ok {v : Word} {s : State} (h : specValidate v s = none) :
    specAccept v s = specStart v (latchWord v (storeWord v s)) := by
  simp only [specAccept]
  split
  · rename_i e he
    cases h.symm.trans he
  · rfl

/-- `Accept` of a word that `Validate` refuses, in IDLE (R114, R134). -/
theorem specAccept_err {v : Word} {s : State} {e : CmdError} (hb : s.busy = false) (hq : s.seq = .idle)
    (h : specValidate v s = some e) : specAccept v s = erroredAt v e s := by
  simp only [specAccept]
  split
  · rename_i e' he
    cases Option.some.inj (h.symm.trans he)
    simp [erroredAt, hb, hq]
  · rename_i he
    cases h.symm.trans he

/-- Settles O14: a write to CMD is acceptance by `Validate` and `Start`, whatever the word. -/
theorem acceptanceFollowsThePseudocode : Obligations.AcceptanceFollowsThePseudocode := by
  intro s v hr
  refine ⟨fun hb hq => ?_, fun hb => ?_⟩
  · rw [runRequest_eq]
    cases hv : specValidate v s with
    | none => rw [accept_ok v _ hr hb hv, specAccept_ok hv]
    | some e => rw [accept_err v _ hr hb hv, specAccept_err hb hq hv]
  · rw [runRequest_eq, accept_busy v _ _ hr hb]

end Sys2Proof.Machine

namespace Sys2Proof.Machine

/-! ## The invariant, by whether a command runs

`State.Inv` is one list of clauses over every sequencer state. While a command runs it says three things apart: what the
command's registers hold whatever the phase (`State.Running`), that FB holds the last frame sealed (`State.FrameKept`), and
what
the phase adds (`State.StartOk`, `BuildOk`, `BodyOk`, `EndOk`). In IDLE only few clauses speak (`inv_of_idle`). -/

/-- FB, ACC and LAST_CKSUM are those of the last frame sealed (R34, R36, R40, R97). -/
structure State.FrameKept (s : State) : Prop where
  fb_sealed : Sealed s.fb
  acc_eq : s.acc = accumulate s.fb
  cksum_eq : s.lastCksum = accumulate s.fb

/-- The clauses of the invariant that hold in every phase of a running command. -/
structure State.Running (s : State) : Prop where
  rst_low : s.rst = false
  busy_set : s.busy = true
  clear : s.err = .none ∧ s.detail = 0 ∧ s.done = false
  arg_fits : s.curOp = Op.subcommand → 8 + s.plen.toNat ≤ 64
  payload_fits : s.curOp = Op.rawFrame → s.poff.toNat + s.plen.toNat ≤ 64
  chunk_total : s.kcPos.toNat + s.kcRem.toNat ≤ 126
  chunk_clamped : s.curOp = Op.keycolors →
    s.kcPos.toNat + s.kcRem.toNat = s.clamped ∧ (s.clamped > 0 → s.kcBase.toNat = s.kcStart.toNat)
  chunk_acked : s.curOp = Op.keycolors → s.kcRem ≠ 0 → s.kcPos.toNat = 18 * s.bodyAcked.toNat
  acked_le : s.bodyAcked.toNat ≤ 7

/-- What SEND_START adds: START is presented, no transaction is open and no frame is acknowledged (R116, R129). -/
structure State.StartOk (s : State) : Prop where
  closed : s.txnOpen = false
  op : s.curOp = Op.txnBegin ∨ (isBodyOp s.curOp = true ∧ s.curWrap = true)
  fresh : s.bodyAcked = 0
  frame : s.fb = encStart

/-- What BUILD adds: a body command inside a transaction (R113, R118, R129). -/
structure State.BuildOk (s : State) : Prop where
  opened : s.txnOpen = true
  op : isBodyOp s.curOp = true
  fresh : s.curOp ≠ Op.keycolors → s.bodyPend = true → s.bodyAcked = 0

/-- What SEND_BODY adds: the frame presented is the next chunk, or the only frame of its command (R106, R118, R129). -/
structure State.BodyOk (s : State) : Prop where
  opened : s.txnOpen = true
  op : isBodyOp s.curOp = true
  chunk : s.curOp = Op.keycolors → s.kcRem ≠ 0 ∧ s.kcN.toNat = s.chunkKeys
  single : s.curOp ≠ Op.keycolors → s.bodyAcked = 0 ∧ s.bodyPend = false

/-- What SEND_END adds: END is presented inside a transaction (R116, R118, R129). -/
structure State.EndOk (s : State) : Prop where
  opened : s.txnOpen = true
  op : s.curOp = Op.txnEnd ∨ (isBodyOp s.curOp = true ∧ s.curWrap = true)
  frame : s.fb = encEnd

/-- A state whose FB takes a sealed frame, with its sum in ACC and LAST_CKSUM, keeps it (R95 to R97). -/
theorem frameKept_of_seal {s : State} {f : Frame} (hf : s.fb = sealFrame f) (ha : s.acc = accumulate f)
    (hc : s.lastCksum = accumulate f) : s.FrameKept where
  fb_sealed := hf ▸ sealed_sealFrame f
  acc_eq := by rw [ha, hf, accumulate_sealFrame]
  cksum_eq := by rw [hc, hf, accumulate_sealFrame]

/-- `rst` is released while a command runs: asserted, it has put SEQ_STATE to IDLE (R148). -/
theorem State.Inv.rst_low {s : State} (h : s.Inv) (hq : s.seq ≠ .idle) : s.rst = false := by
  by_contra hr
  exact hq (congrArg State.seq (h.rst_reset (by simpa using hr)))

/-- The part of the invariant that holds in every phase. -/
theorem State.Inv.running {s : State} (h : s.Inv) (hq : s.seq ≠ .idle) : s.Running :=
  have hb := h.busy_iff.2 hq
  { rst_low := h.rst_low hq
    busy_set := hb
    clear := h.running_clear hb
    arg_fits := h.arg_fits hb
    payload_fits := h.payload_fits hb
    chunk_total := h.chunk_total
    chunk_clamped := h.chunk_clamped hb
    chunk_acked := h.chunk_acked hb
    acked_le := h.acked_le }

/-- A running command meets the invariant when its registers and its frame do, and its phase adds what it must. -/
theorem inv_of_running {s : State} (h : s.Running) (hf : s.FrameKept) (hne : s.seq ≠ .idle)
    (start : s.seq = .sendStart → s.StartOk) (build : s.seq = .build → s.BuildOk) (body : s.seq = .sendBody → s.BodyOk)
    (last : s.seq = .sendEnd → s.EndOk) : s.Inv where
  busy_iff := by simp [h.busy_set, hne]
  rst_reset := by simp [h.rst_low]
  fb_sealed := hf.fb_sealed
  acc_eq := hf.acc_eq
  cksum_eq := hf.cksum_eq
  start_closed := fun hq => (start hq).closed
  body_open := by
    rintro (hq | hq | hq)
    · exact (build hq).opened
    · exact (body hq).opened
    · exact (last hq).opened
  running_clear := fun _ => h.clear
  err_legal := by
    obtain ⟨he, hd, -⟩ := h.clear
    rw [he, hd]
    decide
  start_op := fun hq => (start hq).op
  body_op := fun hq => hq.elim (fun hq => (build hq).op) fun hq => (body hq).op
  end_op := fun hq => (last hq).op
  arg_fits := fun _ => h.arg_fits
  payload_fits := fun _ => h.payload_fits
  chunk_total := h.chunk_total
  chunk_clamped := fun _ => h.chunk_clamped
  chunk_keys := fun hq => (body hq).chunk
  chunk_acked := fun _ => h.chunk_acked
  one_frame := by
    rintro - hk (hq | hq | ⟨hq, hpend⟩)
    · exact (start hq).fresh
    · exact ((body hq).single hk).1
    · exact (build hq).fresh hk hpend
  body_built := fun hq hk => ((body hq).single hk).2
  start_fresh := fun hq => (start hq).fresh
  acked_le := h.acked_le
  start_frame := fun hq => (start hq).frame
  end_frame := fun hq => (last hq).frame

theorem inv_of_start {s : State} (h : s.Running) (hf : s.FrameKept) (hq : s.seq = .sendStart) (hs : s.StartOk) : s.Inv :=
  inv_of_running h hf (by simp [hq]) (fun _ => hs) (by simp [hq]) (by simp [hq]) (by simp [hq])

theorem inv_of_build {s : State} (h : s.Running) (hf : s.FrameKept) (hq : s.seq = .build) (hs : s.BuildOk) : s.Inv :=
  inv_of_running h hf (by simp [hq]) (by simp [hq]) (fun _ => hs) (by simp [hq]) (by simp [hq])

theorem inv_of_body {s : State} (h : s.Running) (hf : s.FrameKept) (hq : s.seq = .sendBody) (hs : s.BodyOk) : s.Inv :=
  inv_of_running h hf (by simp [hq]) (by simp [hq]) (by simp [hq]) (fun _ => hs) (by simp [hq])

theorem inv_of_end {s : State} (h : s.Running) (hf : s.FrameKept) (hq : s.seq = .sendEnd) (hs : s.EndOk) : s.Inv :=
  inv_of_running h hf (by simp [hq]) (by simp [hq]) (by simp [hq]) (by simp [hq]) (fun _ => hs)

/-- With no command running and `rst` released, the invariant is these six clauses. -/
theorem inv_of_idle {s : State} (hr : s.rst = false) (hb : s.busy = false) (hq : s.seq = .idle) (hf : s.FrameKept)
    (he : (s.err, s.detail) ∈ legalErrors) (hc : s.kcPos.toNat + s.kcRem.toNat ≤ 126) (ha : s.bodyAcked.toNat ≤ 7) :
    s.Inv := by
  obtain ⟨hs, hacc, hck⟩ := hf
  constructor <;> simp [hr, hb, hq, hs, hacc, hck, he, hc, ha, -Prod.mk.eta]

/-- The model's records and the agents' moves to come are no part of the invariant. -/
theorem State.Inv.records {s : State} (h : s.Inv) (i : List Event) (d : Nat) (e : List Exchange) (r : List ReadAnswer) :
    State.Inv { s with inbox := i, draws := d, sent := e, reads := r } :=
  { h with
    rst_reset := fun hr => congrArg (fun u => { u with inbox := i, draws := d, sent := e, reads := r }) (h.rst_reset hr) }

/-- IRQ_EN and OVR may take any value while `rst` is released, and DONE may be cleared. -/
theorem State.Inv.flags {s : State} (h : s.Inv) (hr : s.rst = false) (e o : Bool) {d : Bool} (hd : d = true → s.done = true) :
    State.Inv { s with irqEn := e, ovr := o, done := d } :=
  { h with
    rst_reset := by simp [hr]
    running_clear := fun hb => by
      obtain ⟨he, hdet, hdone⟩ := h.running_clear hb
      exact ⟨he, hdet, by cases d <;> simp_all⟩ }

end Sys2Proof.Machine

namespace Sys2Proof.Machine

/-! ## Every step keeps the invariant -/

/-- Ending a command keeps the invariant, with an error that R132 lists or none (R121, R134). -/
theorem State.Inv.takeError {s : State} (h : s.Inv) (hr : s.rst = false) {e : CmdError}
    (he : (e.code, e.detail) ∈ legalErrors) : (takeError e s).Inv :=
  inv_of_idle hr rfl rfl ⟨h.fb_sealed, h.acc_eq, h.cksum_eq⟩ he h.chunk_total h.acked_le

/-- Completing keeps the invariant, whatever becomes of TXN_OPEN (R117, R120, R121). -/
theorem State.Inv.complete {s : State} (h : s.Inv) (hr : s.rst = false) (o : Bool) : (complete { s with txnOpen := o }).Inv :=
  inv_of_idle hr rfl rfl ⟨h.fb_sealed, h.acc_eq, h.cksum_eq⟩ h.err_legal h.chunk_total h.acked_le

/-- A chunk holds at most 18 keys, so KC_N holds their number (R106). -/
theorem chunkKeys_toNat (s : State) : (BitVec.ofNat 8 s.chunkKeys).toNat = s.chunkKeys := by
  have h : s.chunkKeys ≤ 18 := Nat.min_le_right _ _
  rw [BitVec.toNat_ofNat, Nat.mod_eq_of_lt (by omega)]

/-- BUILD keeps the invariant (R118). -/
theorem buildStep_keeps_inv {s t : State} (h : s.Inv) (hq : s.seq = .build) (hs : buildStep s = .next t) : t.Inv := by
  have hrun := h.running (by simp [hq])
  have hopen := h.body_open (.inl hq)
  have hop := h.body_op (.inl hq)
  rcases buildStep_next hs with ⟨hk, hrem, rfl⟩ | ⟨hk, hpend, f, -, rfl⟩ | ⟨-, -, e, he, rfl⟩ | ⟨-, ⟨hw, rfl⟩ | ⟨-, rfl⟩⟩
  · exact inv_of_body { hrun with } (frameKept_of_seal rfl rfl rfl) rfl
      { opened := hopen, op := hop, chunk := fun _ => ⟨hrem, chunkKeys_toNat s⟩, single := fun hc => absurd hk hc }
  · have hfresh := h.one_frame hrun.busy_set hk (.inr (.inr ⟨hq, hpend⟩))
    exact inv_of_body { hrun with } (frameKept_of_seal rfl rfl rfl) rfl
      { opened := hopen, op := hop, chunk := fun hc => absurd hc hk, single := fun _ => ⟨hfresh, rfl⟩ }
  · refine h.takeError hrun.rst_low ?_
    rcases bodyFrame_error he with rfl | rfl <;> decide
  · exact inv_of_end { hrun with } (frameKept_of_seal rfl rfl rfl) rfl
      { opened := hopen, op := .inr ⟨hop, hw⟩, frame := sealFrame_end.trans frameOfBytes_end }
  · exact h.complete hrun.rst_low s.txnOpen

/-- A chunk acknowledged leaves the keys of the command as they were, counts the frame, and BODY_ACKED stays in range
(R25, R107, R108). -/
theorem advance_counts {pos rem n acked : Byte} (hn : n.toNat = min rem.toNat 18) (htot : pos.toNat + rem.toNat ≤ 126)
    (hrem : rem ≠ 0) (hpos : pos.toNat = 18 * acked.toNat) :
    (pos + n).toNat + (rem - n).toNat = pos.toNat + rem.toNat ∧ (acked + 1).toNat = acked.toNat + 1 ∧
      acked.toNat + 1 ≤ 7 ∧ (rem - n ≠ 0 → (pos + n).toNat = 18 * (acked.toNat + 1)) := by
  have hrem' : rem.toNat ≠ 0 := fun hc => hrem (BitVec.eq_of_toNat_eq hc)
  have hsub : (rem - n).toNat = rem.toNat - n.toNat := BitVec.toNat_sub_of_le (by rw [BitVec.le_def]; omega)
  have hadd : (pos + n).toNat = pos.toNat + n.toNat := BitVec.toNat_add_of_lt (by omega)
  have hack : (acked + 1).toNat = acked.toNat + 1 := BitVec.toNat_add_of_lt (by simp; omega)
  refine ⟨by omega, hack, by omega, fun hne => ?_⟩
  have : (rem - n).toNat ≠ 0 := fun hc => hne (BitVec.eq_of_toNat_eq hc)
  omega

/-- An acknowledged START keeps the invariant (R117). -/
theorem startAcked_keeps_inv {s : State} (h : s.Inv) (hq : s.seq = .sendStart) : (startAcked s).Inv := by
  have hrun := h.running (by simp [hq])
  rw [startAcked]
  split
  · exact h.complete hrun.rst_low true
  · rename_i hop
    obtain ⟨hbody, -⟩ := (h.start_op hq).resolve_left hop
    exact inv_of_build { hrun with } ⟨h.fb_sealed, h.acc_eq, h.cksum_eq⟩ rfl
      { opened := rfl, op := hbody, fresh := fun _ _ => h.start_fresh hq }

/-- An acknowledged body frame keeps the invariant (R107, R119). -/
theorem bodyAckedStep_keeps_inv {s : State} (h : s.Inv) (hq : s.seq = .sendBody) : (bodyAckedStep s).Inv := by
  have hrun := h.running (by simp [hq])
  have hopen := h.body_open (.inr (.inl hq))
  have hop := h.body_op (.inr hq)
  rw [bodyAckedStep]
  split
  · rename_i hk
    obtain ⟨hrem, hn⟩ := h.chunk_keys hq hk
    obtain ⟨hclamp, hbase⟩ := hrun.chunk_clamped hk
    obtain ⟨htot, hack, hle, hpos⟩ := advance_counts hn h.chunk_total hrem (hrun.chunk_acked hk hrem)
    refine inv_of_build (s := advanceChunk { s with bodyAcked := s.bodyAcked + 1, seq := .build })
      { hrun with
        chunk_total := htot.trans_le h.chunk_total
        chunk_clamped := fun _ => ⟨htot.trans hclamp, hbase⟩
        chunk_acked := fun _ hne => (hpos hne).trans (congrArg (18 * ·) hack.symm)
        acked_le := hack.trans_le hle }
      ⟨h.fb_sealed, h.acc_eq, h.cksum_eq⟩ rfl
      { opened := hopen, op := hop, fresh := fun hc => absurd hk hc }
  · rename_i hk
    have hfresh := h.one_frame hrun.busy_set hk (.inr (.inl hq))
    refine inv_of_build (s := { s with bodyAcked := s.bodyAcked + 1, seq := .build })
      { hrun with
        chunk_acked := fun hc => absurd hc hk
        acked_le := by simp [hfresh] }
      ⟨h.fb_sealed, h.acc_eq, h.cksum_eq⟩ rfl
      { opened := hopen, op := hop
        fresh := fun _ hpend => absurd ((h.body_built hq hk).symm.trans hpend) (by decide) }

/-- A failed exchange ends with a TRANSPORT error that R132 lists (R122, R123). -/
theorem transportDetail_legal {q : SeqState} {r : Response} (hq : q = .sendStart ∨ q = .sendBody ∨ q = .sendEnd)
    (hp : permitted (q == .sendBody) r = true) (hr : r ≠ .ok) :
    (ErrCode.transport, transportDetail q r) ∈ legalErrors := by
  rcases hq with rfl | rfl | rfl <;> cases r <;> revert hp hr <;> decide

/-- The reaction to a permitted response keeps the invariant (R117, R119, R120, R122). -/
theorem respond_keeps_inv {s : State} {r : Response} (h : s.Inv)
    (hq : s.seq = .sendStart ∨ s.seq = .sendBody ∨ s.seq = .sendEnd) (hp : permitted (s.seq == .sendBody) r = true) :
    (respond r s).Inv := by
  have hr : s.rst = false := h.rst_low (by rcases hq with hq | hq | hq <;> simp [hq])
  by_cases hok : r = .ok
  · subst hok
    rcases hq with hq | hq | hq
    · rw [respond_ok_start hq]
      exact startAcked_keeps_inv h hq
    · rw [respond_ok_body hq]
      exact bodyAckedStep_keeps_inv h hq
    · rw [respond_ok_end hq]
      exact h.complete hr false
  · rw [respond_fail s hok]
    exact inv_of_idle hr rfl rfl ⟨h.fb_sealed, h.acc_eq, h.cksum_eq⟩ (transportDetail_legal hq hp hok) h.chunk_total
      h.acked_le

/-- An exchange keeps the invariant (R123, R125). -/
theorem exchange_keeps_inv {f : Frame} {s t : State} (h : s.Inv) (hs : exchange f s = .next t) : t.Inv := by
  obtain ⟨q, i, d, r, hport, -, hp, -, rfl⟩ := exchange_next hs
  obtain ⟨-, hq, rfl⟩ := portRequest_some.1 hport
  exact respond_keeps_inv (h.records i d _ s.reads) hq hp

/-! ### Requester moves and reset -/

/-- `Validate` answers an error that R132 lists (R115). -/
theorem specValidate_legal {v : Word} {s : State} {e : CmdError} (h : specValidate v s = some e) :
    (e.code, e.detail) ∈ legalErrors := by
  rw [specValidate_fields] at h
  split_ifs at h <;> cases h <;> decide

/-- What `Validate` has passed (R115): the OP is in the map, it fits TXN_OPEN, and its length fits. -/
theorem specValidate_none {v : Word} {s : State} (h : specValidate v s = none) :
    inOpMap (wordOp v) = true ∧ (wordOp v = Op.txnBegin → s.txnOpen = false) ∧ (wordOp v = Op.txnEnd → s.txnOpen = true) ∧
      (isBodyOp (wordOp v) = true → s.txnOpen = !wordWrap v) ∧
      (wordOp v = Op.subcommand → 8 + s.plen.toNat ≤ 64) ∧
      (wordOp v = Op.rawFrame → s.poff.toNat + s.plen.toNat ≤ 64) := by
  rw [specValidate_fields] at h
  split_ifs at h with hill hbegin hend hwrap hplain hsub hraw
  refine ⟨by simpa using (not_or.1 hill).1, fun ho => ?_, fun ho => ?_, fun ho => ?_, fun ho => ?_, fun ho => ?_⟩
  · simpa using fun hc => hbegin ⟨ho, hc⟩
  · simpa using fun hc => hend ⟨ho, hc⟩
  · cases hw : wordWrap v
    · simpa using fun ht => hplain ⟨ho, hw, ht⟩
    · simpa using fun ht => hwrap ⟨ho, hw, ht⟩
  · exact not_lt.1 fun hc => hsub ⟨ho, hc⟩
  · exact not_lt.1 fun hc => hraw ⟨ho, hc⟩

/-- The clamped count is at most MAX_KEY (R101). -/
theorem clamped_le (s : State) : s.clamped ≤ 126 := by
  rw [State.clamped, clampedCount]
  split_ifs <;> simp only [Config.maxKey] at * <;> omega

/-- The clamped count is positive only for a start key that a byte holds (R101, R104). -/
theorem kcBase_of_clamped {s : State} (h : s.clamped > 0) : (s.kcStart.extractLsb' 0 8).toNat = s.kcStart.toNat := by
  have hlt : s.kcStart.toNat ≤ 126 := by
    by_contra hc
    rw [State.clamped, clampedCount, if_pos (not_le.1 hc)] at h
    exact absurd h (by decide)
  rw [BitVec.extractLsb'_toNat, Nat.shiftRight_zero, Nat.mod_eq_of_lt (by omega)]

/-- A command other than KEYCOLORS that has passed `Validate` runs (R114, R115). -/
theorem accepted_running {v : Word} {s : State} (h : s.Inv) (hr : s.rst = false) (hv : specValidate v s = none)
    (hk : wordOp v ≠ Op.keycolors) (b : Bool) : State.Running { latchWord v (storeWord v s) with bodyPend := b } := by
  obtain ⟨-, -, -, -, harg, hpay⟩ := specValidate_none hv
  exact
    { rst_low := hr
      busy_set := rfl
      clear := ⟨rfl, rfl, rfl⟩
      arg_fits := harg
      payload_fits := hpay
      chunk_total := h.chunk_total
      chunk_clamped := fun hc => absurd hc hk
      chunk_acked := fun hc => absurd hc hk
      acked_le := by simp }

/-- KEYCOLORS runs once its chunker is initialised (R104, R114). -/
theorem accepted_keycolors_running {v : Word} {s : State} (hr : s.rst = false) (hk : wordOp v = Op.keycolors) :
    (chunkInit (latchWord v (storeWord v s))).Running := by
  have hle := clamped_le s
  have hrem : (BitVec.ofNat 8 s.clamped).toNat = s.clamped := by
    rw [BitVec.toNat_ofNat, Nat.mod_eq_of_lt (by omega)]
  have htot : (0 : Byte).toNat + (BitVec.ofNat 8 s.clamped).toNat = s.clamped := by rw [hrem]; simp
  exact
    { rst_low := hr
      busy_set := rfl
      clear := ⟨rfl, rfl, rfl⟩
      arg_fits := fun hc => absurd (hk.symm.trans hc) (by decide)
      payload_fits := fun hc => absurd (hk.symm.trans hc) (by decide)
      chunk_total := htot.trans_le hle
      chunk_clamped := fun _ => ⟨htot, fun hpos =>
        (congrArg BitVec.toNat (if_pos hpos)).trans (kcBase_of_clamped (s := s) hpos)⟩
      chunk_acked := fun _ _ => rfl
      acked_le := by simp }

/-- The first frame of a fresh body command whose WRAP bit fits TXN_OPEN keeps the invariant (R116). -/
theorem enterBody_keeps_inv {s : State} (h : s.Running) (hf : s.FrameKept) (hop : isBodyOp s.curOp = true)
    (hfresh : s.bodyAcked = 0) (ht : s.txnOpen = !s.curWrap) : (enterBody s.curWrap s).Inv := by
  rw [enterBody]
  split
  · rename_i hw
    exact inv_of_start { h with } (frameKept_of_seal rfl rfl rfl) rfl
      { closed := by simpa [hw] using ht, op := .inr ⟨hop, hw⟩, fresh := hfresh
        frame := sealFrame_start.trans frameOfBytes_start }
  · rename_i hw
    exact inv_of_build { h with } ⟨hf.fb_sealed, hf.acc_eq, hf.cksum_eq⟩ rfl
      { opened := by simpa [hw] using ht, op := hop, fresh := fun _ _ => hfresh }

/-- The start of a word that `Validate` passes keeps the invariant (R114 to R116). -/
theorem specStart_keeps_inv {v : Word} {s : State} (h : s.Inv) (hr : s.rst = false) (hv : specValidate v s = none) :
    (specStart v (latchWord v (storeWord v s))).Inv := by
  obtain ⟨hmap, hbegin, hend, hbody, -, -⟩ := specValidate_none hv
  rw [specStart_fields]
  split
  · rename_i ho
    have hrun := accepted_running h hr hv (by rw [ho]; decide) s.bodyPend
    exact inv_of_start { hrun with } (frameKept_of_seal rfl rfl rfl) rfl
      { closed := hbegin ho, op := .inl ho, fresh := rfl, frame := sealFrame_start.trans frameOfBytes_start }
  split
  · rename_i ho
    have hrun := accepted_running h hr hv (by rw [ho]; decide) s.bodyPend
    exact inv_of_end { hrun with } (frameKept_of_seal rfl rfl rfl) rfl
      { opened := hend ho, op := .inl ho, frame := sealFrame_end.trans frameOfBytes_end }
  rename_i hnb hne
  have hop : isBodyOp (wordOp v) = true := by simpa [inOpMap, hnb, hne] using hmap
  split
  · rename_i hk
    exact enterBody_keeps_inv (accepted_keycolors_running hr hk) ⟨h.fb_sealed, h.acc_eq, h.cksum_eq⟩ hop rfl (hbody hop)
  · rename_i hk
    exact enterBody_keeps_inv (accepted_running h hr hv hk true) ⟨h.fb_sealed, h.acc_eq, h.cksum_eq⟩ hop rfl (hbody hop)

/-- A write to CMD keeps the invariant (R18, R114). -/
theorem runRequest_keeps_inv {v : Word} {s t : State} (h : s.Inv) (hs : runRequest v s = .next t) : t.Inv := by
  rw [runRequest_eq] at hs
  obtain rfl := Host.Outcome.next.inj hs
  rcases accept_cases v (specValidate v) (specStart v) s with
    ⟨-, ha⟩ | ⟨hr, -, ha⟩ | ⟨e, hr, hb, hv, ha⟩ | ⟨hr, hb, hv, ha⟩ <;> rw [ha]
  · exact h
  · exact h.flags hr s.irqEn true id
  · exact inv_of_idle hr rfl rfl ⟨h.fb_sealed, h.acc_eq, h.cksum_eq⟩ (specValidate_legal hv) h.chunk_total (by simp [erroredAt])
  · exact specStart_keeps_inv h hr hv

/-- In IDLE the request registers may take any value (R15, R22). -/
theorem State.Inv.operands {s : State} (h : s.Inv) (hr : s.rst = false) (hb : s.busy = false) (tm d rc kc : Word)
    (p : Frame) (c : Vector CbEntry 126) :
    State.Inv { s with timeoutMs := tm, desc := d, rawcfg := rc, kcRange := kc, pb := p, cb := c } := by
  have hq : s.seq = .idle := by
    by_contra hc
    simp [h.busy_iff.2 hc] at hb
  exact inv_of_idle hr hb hq ⟨h.fb_sealed, h.acc_eq, h.cksum_eq⟩ h.err_legal h.chunk_total h.acked_le

theorem word_of_regAt_status {a : Offset} (h : regAt a = .status) : a.toNat / 4 = 1 := by
  rcases word_cases a with w | w | w | w | w | w | w | w | w | w | w | w
  · cases (regAt_cmd.2 w).symm.trans h
  · exact w
  · cases (regAt_ctrl w).symm.trans h
  · cases (regAt_timeoutMs w).symm.trans h
  · cases (regAt_desc w).symm.trans h
  · cases (regAt_rawcfg w).symm.trans h
  · cases (regAt_kcRange w).symm.trans h
  · cases (regAt_lastCksum w).symm.trans h
  · cases (regAt_pb w).symm.trans h
  · cases (regAt_fb w).symm.trans h
  · cases (regAt_cb w).symm.trans h
  · cases (regAt_unmapped w).symm.trans h

/-- Everything a write to a register word can do: nothing, the STATUS and CTRL writes, or a request register's write, which
gives an operand a value (R22, R27, R28, R40, R52). -/
theorem writeReg_cases (v : Word) (s : State) (r : Reg) :
    writeReg v s r = s ∨ (r = .status ∧ writeReg v s r = clearStatus v s) ∨ writeReg v s r = writeCtrl v s ∨
      ∃ f tm d rc kc p c, writeReg v s r = writeRequest f s ∧
        f s = { s with timeoutMs := tm, desc := d, rawcfg := rc, kcRange := kc, pb := p, cb := c } := by
  cases r with
  | cmd | lastCksum | fb | unmapped => exact .inl rfl
  | status => exact .inr (.inl ⟨rfl, rfl⟩)
  | ctrl => exact .inr (.inr (.inl rfl))
  | timeoutMs | desc | rawcfg | kcRange | pb | cb =>
    rw [writeReg]
    exact .inr (.inr (.inr ⟨_, _, _, _, _, _, _, rfl, rfl⟩))

/-- Everything a requester write to another word than CMD can do: nothing, the STATUS and CTRL writes, OVR while a command
runs, or new values in the operands while none does (R22, R147). -/
theorem requesterWrite_cases (a : Offset) (v : Word) (s : State) :
    requesterWrite a v s = s ∨
      (s.rst = false ∧ a.toNat / 4 = 1 ∧ requesterWrite a v s = clearStatus v s) ∨
      (s.rst = false ∧ requesterWrite a v s = writeCtrl v s) ∨
      (s.rst = false ∧ s.busy = true ∧ requesterWrite a v s = { s with ovr := true }) ∨
      (s.rst = false ∧ s.busy = false ∧ ∃ tm d rc kc p c,
        requesterWrite a v s = { s with timeoutMs := tm, desc := d, rawcfg := rc, kcRange := kc, pb := p, cb := c }) := by
  by_cases hr : s.rst = true
  · exact .inl (if_pos hr)
  rw [Bool.not_eq_true] at hr
  rw [requesterWrite_eq a v hr]
  rcases writeReg_cases v s (regAt a) with hw | ⟨ha, hw⟩ | hw | ⟨f, tm, d, rc, kc, p, c, hw, hf⟩
  · exact .inl hw
  · exact .inr (.inl ⟨hr, word_of_regAt_status ha, hw⟩)
  · exact .inr (.inr (.inl ⟨hr, hw⟩))
  · rcases Bool.eq_false_or_eq_true s.busy with hb | hb
    · rw [writeRequest_busy f hb] at hw
      exact .inr (.inr (.inr (.inl ⟨hr, hb, hw⟩)))
    · rw [writeRequest_idle f hb, hf] at hw
      exact .inr (.inr (.inr (.inr ⟨hr, hb, tm, d, rc, kc, p, c, hw⟩)))

/-- A requester write to another word than CMD keeps the invariant. -/
theorem requesterWrite_keeps_inv {s : State} (h : s.Inv) (a : Offset) (v : Word) : (requesterWrite a v s).Inv := by
  rcases requesterWrite_cases a v s with hw | ⟨hr, -, hw⟩ | ⟨hr, hw⟩ | ⟨hr, -, hw⟩ | ⟨hr, hb, tm, d, rc, kc, p, c, hw⟩ <;>
    rw [hw]
  · exact h
  · exact h.flags hr s.irqEn _ (by simp +contextual)
  · exact h.flags hr _ s.ovr id
  · exact h.flags hr s.irqEn true id
  · exact h.operands hr hb tm d rc kc p c

theorem accumulate_zero : accumulate (Vector.replicate 64 0) = 0 := by rw [accumulate_eq]; decide

/-- The reset values meet the invariant, at either level of `rst` (R147, R148). -/
theorem resetRegisters_inv (s : State) (l : Bool) : State.Inv { resetRegisters s with rst := l } :=
  have released : State.Inv { resetRegisters s with rst := false } :=
    inv_of_idle rfl rfl rfl ⟨sealed_zero, accumulate_zero.symm, accumulate_zero.symm⟩ (.head _)
      (Nat.zero_le _) (Nat.zero_le _)
  { released with rst_reset := fun _ => rfl }

/-- Driving `rst` keeps the invariant (R147 to R149). -/
theorem driveReset_keeps_inv {s : State} (h : s.Inv) (l : Bool) : (driveReset l s).Inv := by
  rw [driveReset]
  split_ifs
  · exact resetRegisters_inv s true
  · exact resetRegisters_inv s false
  · exact h

/-- A turn of `wait_idle` writes the model's records alone (R53, R75). -/
theorem pollIdle_records (s : State) : ∃ i d r, pollIdle s = { s with inbox := i, draws := d, reads := r } := by
  simp only [pollIdle]
  split
  · exact ⟨_, _, _, rfl⟩
  · exact ⟨s.inbox, _, _, rfl⟩

/-- Taking the owed move from the inbox leaves the rest of the state. -/
theorem Owed.eq_inbox {s u : State} (h : Owed s u) : ∃ i, u = { s with inbox := i } := by
  rcases h with ⟨-, rfl⟩ | ⟨rest, -, rfl⟩
  · exact ⟨u.inbox, rfl⟩
  · exact ⟨rest, rfl⟩

/-- So does taking the encoder's move, owed or scheduled. -/
theorem eq_inbox_of_buildMove {s u : State} (h : Owed s u ∨ ∃ rest, s.inbox = .build :: rest ∧ u = { s with inbox := rest }) :
    ∃ i, u = { s with inbox := i } :=
  h.elim Owed.eq_inbox fun ⟨rest, _, hu⟩ => ⟨rest, hu⟩

/-- Settles O50: every move of every agent keeps the invariant. -/
theorem stepKeepsTheInvariant : Obligations.StepKeepsTheInvariant := by
  intro s t h hs
  have take : ∀ rest, State.Inv { s with inbox := rest } := fun rest => h.records rest s.draws s.sent s.reads
  rcases step_next hs with ⟨hu, -⟩ | ⟨u, hu, -, hq, hb⟩ | ⟨-, -, he⟩ | ⟨a, rest, -, rfl⟩ | ⟨rest, -, rfl⟩ |
    ⟨a, v, rest, -, -, hc⟩ | ⟨a, v, rest, -, -, rfl⟩ | ⟨l, rest, -, rfl⟩
  · obtain ⟨i, rfl⟩ := hu.eq_inbox
    exact take i
  · obtain ⟨i, rfl⟩ := eq_inbox_of_buildMove hu
    exact buildStep_keeps_inv (take i) hq hb
  · exact exchange_keeps_inv h he
  · exact h.records rest _ s.sent _
  · obtain ⟨i, d, r, hp⟩ := pollIdle_records { s with inbox := rest }
    rw [hp]
    exact h.records i d s.sent r
  · exact runRequest_keeps_inv (take rest) hc
  · exact requesterWrite_keeps_inv (take rest) a v
  · exact driveReset_keeps_inv (take rest) l

end Sys2Proof.Machine

namespace Sys2Proof.Machine

/-! ## Request words and BUILD -/

/-- Chunk initialisation with KC_BASE as a number (R104). -/
theorem chunkInit_eq (s : State) :
    chunkInit s =
      { s with
        kcRem := BitVec.ofNat 8 s.clamped, kcPos := 0, kcN := 0
        kcBase := if s.clamped > 0 then BitVec.ofNat 8 s.kcStart.toNat else 0 } := by
  have hlow : s.kcStart.extractLsb' 0 8 = BitVec.ofNat 8 s.kcStart.toNat := rfl
  rw [chunkInit, hlow]

/-- Settles O10: KEYCOLORS passes the sequence check and starts with the chunker initialised. -/
theorem keycolorsStarts : Obligations.KeycolorsStarts := by
  intro s w hr hb ht
  refine congrArg Host.Outcome.next ?_
  rw [accept_ok _ _ hr hb (checkBody_none.2 ht), latch_store, startKeycolors, enterBody_eq, chunkInit_eq]
  rfl

/-- Settles O13: past the sequence check, a length that does not fit is the error the command ends with. -/
theorem sizeErrorsEndAtOnce : Obligations.SizeErrorsEndAtOnce := by
  intro s w hr hb ht
  have hseq : checkBody w s = none := checkBody_none.2 ht
  refine ⟨fun hlen => ?_, fun hlen => ?_⟩
  · have hc : checkSubcommand w s = some (payloadTooLarge 1) := by
      rw [checkSubcommand, hseq]
      exact if_pos hlen
    rw [← requestWord_eq]
    exact congrArg Host.Outcome.next (accept_err _ _ hr hb hc)
  · have hc : checkRawFrame w s = some (payloadTooLarge 0) := by
      rw [checkRawFrame, hseq]
      exact if_pos hlen
    rw [← requestWord_eq]
    exact congrArg Host.Outcome.next (accept_err _ _ hr hb hc)

/-- SUBCOMMAND's body frame, byte by byte, when its argument fits (R67, R84). -/
theorem bodySubcommand_ok {s : State} (h : 8 + s.plen.toNat ≤ 64) :
    ∃ f, bodySubcommand s = .ok f ∧ ∀ i (_ : i < 64), f[i] =
      if i = 3 then 0x06#8 else if 4 ≤ i ∧ i < 8 then s.desc.extractLsb' (8 * (i - 4)) 8
      else if h : 8 ≤ i ∧ i < 8 + s.plen.toNat then s.pb[i - 8] else 0 := by
  have hl : (s.pbBytes s.plen.toNat).length = s.plen.toNat := pbBytes_length s _ (by omega)
  obtain ⟨f, hf, hget⟩ := buildSubcommandFrame_ok s.descBytes (s.pbBytes s.plen.toNat) rfl (by omega)
  refine ⟨f, hf, fun i hi => ?_⟩
  rw [hget i hi]
  by_cases h8 : 8 ≤ i ∧ i < 8 + s.plen.toNat
  · rw [dif_pos (by rwa [hl]), if_neg (by omega), if_neg (by omega), dif_pos h8, pbBytes_get s _ _ (by omega)]
  rw [dif_neg (by rwa [hl]), dif_neg h8]
  by_cases h4 : 4 ≤ i ∧ i < 8
  · rw [dif_pos h4, if_neg (by omega), if_pos h4, descBytes_get s _ (by omega)]
  · rw [dif_neg h4, if_neg h4]

/-- RAW_FRAME's body frame, byte by byte, when its payload fits (R79, R92). -/
theorem bodyRawFrame_ok {s : State} (h : s.poff.toNat + s.plen.toNat ≤ 64) :
    ∃ f, bodyRawFrame s = .ok f ∧ ∀ i (_ : i < 64), f[i] =
      if h : s.poff.toNat ≤ i ∧ i < s.poff.toNat + s.plen.toNat then s.pb[i - s.poff.toNat]
      else if i = 0 then s.rtag else if i = 3 then s.rcmd else 0 := by
  have hl : (s.pbBytes s.plen.toNat).length = s.plen.toNat := pbBytes_length s _ (by omega)
  refine ⟨_, if_neg (by rw [hl]; exact not_lt.2 h), fun i hi => ?_⟩
  rw [controlFrame_get]
  by_cases hp : s.poff.toNat ≤ i ∧ i < s.poff.toNat + s.plen.toNat
  · rw [dif_pos (by rwa [hl]), dif_pos hp, pbBytes_get s _ _ (by omega)]
  · rw [dif_neg (by rwa [hl]), dif_neg hp]

/-- Settles O17: BUILD presents the frame that SUBCOMMAND's or RAW_FRAME's builder makes of the operands. -/
theorem buildSendsTheGenericFrame : Obligations.BuildSendsTheGenericFrame := by
  intro s hpend
  refine ⟨fun hop hlen => ?_, fun hop hlen => ?_⟩
  · obtain ⟨f, hf, hget⟩ := bodySubcommand_ok hlen
    exact ⟨f, buildStep_body hpend (by rw [hop]; decide) ((bodyFrame_subcommand hop).trans (congrArg some hf)), hget⟩
  · obtain ⟨f, hf, hget⟩ := bodyRawFrame_ok hlen
    exact ⟨f, buildStep_body hpend (by rw [hop]; decide) ((bodyFrame_rawFrame hop).trans (congrArg some hf)), hget⟩

/-- A written entry of the colour buffer is read as the colour last written (R43). -/
theorem cbColour_written {s : State} {i : Nat} {e : CbEntry} (n : Nat) (he : s.cb[i]? = some e) (hw : e.written = true) :
    s.cbColour i n = e.colour := by
  simp [State.cbColour, he, hw]

/-- A chunk carries the colour of each written entry it reads (R42, R106). -/
theorem chunkColours_written {s : State} {j : Nat} {e : CbEntry} (he : s.cb[s.kcPos.toNat + j]? = some e)
    (hw : e.written = true) (hj : j < s.chunkKeys) : s.chunkColours[j]? = some e.colour := by
  simp [State.chunkColours, List.getElem?_range hj, cbColour_written _ he hw]

/-- A chunk records exactly the unwritten entries it reads (R43, R106). -/
theorem mem_chunkFaults {s : State} {i : Nat} :
    FaultMark.unwrittenColour i ∈ s.chunkFaults ↔
      s.kcPos.toNat ≤ i ∧ i < s.kcPos.toNat + s.chunkKeys ∧ s.cbWritten i = false := by
  simp only [State.chunkFaults, List.mem_map, List.mem_filter, List.mem_range, Bool.not_eq_true',
    FaultMark.unwrittenColour.injEq]
  constructor
  · rintro ⟨j, ⟨hj, hw⟩, rfl⟩
    exact ⟨by omega, by omega, hw⟩
  · rintro ⟨hlo, hhi, hw⟩
    have hsum : s.kcPos.toNat + (i - s.kcPos.toNat) = i := by omega
    exact ⟨i - s.kcPos.toNat, ⟨by omega, by rwa [hsum]⟩, hsum⟩

/-- Settles O19: the next chunk is built whatever the marks say, and its unwritten entries are recorded. -/
theorem unwrittenColourIsRecorded : Obligations.UnwrittenColourIsRecorded := by
  intro s hop hrem
  refine ⟨s.chunkColours, s.chunkFaults, by simp [State.chunkColours, State.chunkKeys], buildStep_chunk hop hrem,
    fun j e he hw hj => chunkColours_written he hw hj, fun i => mem_chunkFaults⟩

/-! ## Frame instructions -/

/-- What the reaction to a response leaves unchanged besides the request registers and the records (R117, R119, R120,
R122): FB with its checksum, the latches, IRQ_EN, OVR, the reset line, KC_BASE and KC_N. -/
theorem respond_leaves (r : Response) (s : State) :
    SameFrame s (respond r s) ∧ SameLatches s (respond r s) ∧ (respond r s).irqEn = s.irqEn ∧
      (respond r s).ovr = s.ovr ∧ (respond r s).rst = s.rst ∧ (respond r s).kcBase = s.kcBase ∧
      (respond r s).kcN = s.kcN ∧ (respond r s).reads = s.reads := by
  unfold respond
  split
  · cases s.seq with
    | sendStart =>
      simp only [startAcked]
      split <;> simp [SameFrame, SameLatches]
    | sendBody =>
      simp only [bodyAckedStep]
      split <;> simp [SameFrame, SameLatches]
    | idle | build | sendEnd => simp [SameFrame, SameLatches]
  · simp [SameFrame, SameLatches, abort]

/-- Settles O28: a frame instruction is the exchange of its bytes, and only the reaction writes registers. -/
theorem framesLeaveTheRestUnchanged : Obligations.FramesLeaveTheRestUnchanged := by
  intro i s t hi hs
  obtain ⟨f, hf⟩ := Option.isSome_iff_exists.1 hi
  rw [exec_frame hf] at hs
  obtain ⟨q, inbox, draws, r, hport, hq, hp, -, rfl⟩ := exchange_next hs
  obtain ⟨-, -, rfl⟩ := portRequest_some.1 hport
  obtain ⟨hsent, hmarks, hreq⟩ := respond_unchanged r
    { s with inbox := inbox, draws := draws, sent := s.sent ++ [⟨s.seq, ⟨s.fb, s.seq == .sendBody, s.timeoutMs⟩, r⟩] }
  obtain ⟨hframe, hlatch, hirq, hovr, hrst, hbase, hn, hreads⟩ := respond_leaves r
    { s with inbox := inbox, draws := draws, sent := s.sent ++ [⟨s.seq, ⟨s.fb, s.seq == .sendBody, s.timeoutMs⟩, r⟩] }
  exact ⟨hreq, hframe, hlatch, hirq, hovr, hmarks, hrst, hbase, hn, hreads, hf.trans (congrArg some hq.symm), r, hsent, hp⟩

end Sys2Proof.Machine

namespace Sys2Proof.Machine

/-! ## The step on a scheduled move -/

/-- Settles O4: the step of a CMD write runs the word, as an instruction or as an illegal word. -/
theorem stepRunsTheRequestWord : Obligations.StepRunsTheRequestWord := by
  intro s a v rest hi ha
  rw [step_cmd hi ha, runRequest]
  exact ⟨fun i h => by rw [h], fun e h => by rw [h]⟩

/-- With an exchange presented, the transport's move is the exchange of the frame in FB, scheduled or owed (R123, R161). -/
theorem step_presented {s : State} (hp : s.portRequest.isSome = true)
    (hi : s.inbox = [] ∨ (∃ rest, s.inbox = .duty :: rest) ∨ ∃ r rest, s.inbox = .respond r :: rest) :
    step s = exchange s.fb s := by
  obtain ⟨q, hq⟩ := Option.isSome_iff_exists.1 hp
  obtain ⟨hr, hsend, -⟩ := portRequest_some.1 hq
  have owed : ∀ u, Owed s u → step s = exchange s.fb s := fun u hu => by
    rw [step_owed hu]
    rcases hsend with h | h | h <;> simp [hr, h]
  rcases hi with hi | ⟨rest, hi⟩ | ⟨r, rest, hi⟩
  · exact owed s (.inl ⟨hi, rfl⟩)
  · exact owed _ (.inr ⟨rest, hi, rfl⟩)
  · rw [step, nextMove, hi]
    simp only [hp, if_true, runFrame_eq]

/-- Settles O5: the exchange presented is the instruction that FB decodes to. -/
theorem stepRunsThePresentedFrame : Obligations.StepRunsThePresentedFrame := by
  intro s hp hi
  refine ⟨fun i h => ?_, fun _ _ => step_presented hp hi⟩
  rw [step_presented hp hi, exec_frame (decodeFrame_ok h)]

/-- A write to another word than CMD while `rst` is released reaches its register (R50, R52). -/
theorem step_writeReg {s : State} {a : Offset} {v : Word} {rest : List Event} (hr : s.rst = false)
    (hi : s.inbox = .write a v :: rest) (ha : a.toNat / 4 ≠ 0) :
    step s = .next (writeReg v { s with inbox := rest } (regAt a)) := by
  rw [step_write hi ha]
  exact congrArg Host.Outcome.next (requesterWrite_eq (s := { s with inbox := rest }) a v hr)

/-! ## Bytes of a word -/

/-- A buffer word's byte j is the buffer's byte (R39, R40, R49). -/
theorem bufferWord_byte (f : Frame) (k : Fin 16) (j : Nat) (hj : j < 4) :
    (bufferWord f k).extractLsb' (8 * j) 8 = f[4 * k.val + j] := by
  have h := congrArg (fun l : List Byte => l[j]?)
    (wordBytes_wordOfBytes f[4 * k.val] f[4 * k.val + 1] f[4 * k.val + 2] f[4 * k.val + 3])
  have : j = 0 ∨ j = 1 ∨ j = 2 ∨ j = 3 := by omega
  rcases this with rfl | rfl | rfl | rfl <;> exact Option.some.inj h

/-- A word over a buffer is read back from its bytes (R39, R49). -/
theorem bufferWord_copyBytes (f : Frame) (k : Fin 16) (v : Word) :
    bufferWord (copyBytes f (4 * k.val) (wordBytes v)) k = v := by
  have hl : (wordBytes v).length = 4 := rfl
  have byte : ∀ j (hj : j < 4), (copyBytes f (4 * k.val) (wordBytes v))[4 * k.val + j] = (wordBytes v)[j] := fun j hj => by
    rw [copyBytes_get, dif_pos (by omega)]
    exact getElem_congr_idx (Nat.add_sub_cancel_left _ _)
  refine Eq.trans ?_ (wordOfBytes_bytes v)
  exact congr (congr (congr (congrArg wordOfBytes (byte 0 (by omega))) (byte 1 (by omega))) (byte 2 (by omega)))
    (byte 3 (by omega))

/-- A word as a number is its bytes, the low byte first (R49). -/
theorem wordOfBytes_toNat (b0 b1 b2 b3 : Byte) :
    (wordOfBytes b0 b1 b2 b3).toNat = b0.toNat + 256 * b1.toNat + 65536 * b2.toNat + 16777216 * b3.toNat := by
  rw [wordOfBytes, BitVec.toNat_append, BitVec.toNat_append, BitVec.toNat_append,
    ← Nat.shiftLeft_add_eq_or_of_lt b0.isLt, ← Nat.shiftLeft_add_eq_or_of_lt b1.isLt,
    ← Nat.shiftLeft_add_eq_or_of_lt b2.isLt]
  simp only [Nat.shiftLeft_eq]
  omega

/-- A colour word keeps the colour's three bytes and reads 0 above them (R44). -/
theorem wordOfColour_colourOfWord (v : Word) : wordOfColour (colourOfWord v) = v &&& 0x00FFFFFF := by
  apply BitVec.eq_of_toNat_eq
  have hmask : (v &&& 0x00FFFFFF).toNat = v.toNat % 2 ^ 24 := Nat.and_two_pow_sub_one_eq_mod _ 24
  rw [hmask, wordOfColour, wordOfBytes_toNat]
  simp only [colourOfWord, BitVec.extractLsb'_toNat, Nat.shiftRight_eq_div_pow]
  simp
  omega

theorem wordOfColour_top (c : Colour) : (wordOfColour c).extractLsb' 24 8 = 0 := by
  have h := congrArg (fun l : List Byte => l[3]?) (wordBytes_wordOfBytes c.r c.g c.b 0)
  exact Option.some.inj h

/-! ## What a write does, by the word it reaches -/

/-- A write to a request register other than CMD is `writeRequest`, whose write leaves OVR (R22). -/
theorem writeReg_request (v : Word) (s : State) {a : Offset}
    (h : (3 ≤ a.toNat / 4 ∧ a.toNat / 4 ≤ 6) ∨ (16 ≤ a.toNat / 4 ∧ a.toNat / 4 < 32) ∨
      (128 ≤ a.toNat / 4 ∧ a.toNat / 4 < 254)) :
    ∃ f, writeReg v s (regAt a) = writeRequest f s ∧ (f s).ovr = s.ovr := by
  rcases h with h | h | h
  · have : a.toNat / 4 = 3 ∨ a.toNat / 4 = 4 ∨ a.toNat / 4 = 5 ∨ a.toNat / 4 = 6 := by omega
    rcases this with w | w | w | w
    · rw [regAt_timeoutMs w, writeReg]
      exact ⟨_, rfl, rfl⟩
    · rw [regAt_desc w, writeReg]
      exact ⟨_, rfl, rfl⟩
    · rw [regAt_rawcfg w, writeReg]
      exact ⟨_, rfl, rfl⟩
    · rw [regAt_kcRange w, writeReg]
      exact ⟨_, rfl, rfl⟩
  · rw [regAt_pb h, writeReg]
    exact ⟨_, rfl, rfl⟩
  · rw [regAt_cb h, writeReg]
    exact ⟨_, rfl, rfl⟩

/-- A write to LAST_CKSUM, FB or an unmapped word is ignored (R40, R52). -/
theorem writeReg_readOnly (v : Word) (s : State) {a : Offset}
    (h : (7 ≤ a.toNat / 4 ∧ a.toNat / 4 < 16) ∨ (32 ≤ a.toNat / 4 ∧ a.toNat / 4 < 128) ∨ 254 ≤ a.toNat / 4) :
    writeReg v s (regAt a) = s := by
  have : a.toNat / 4 = 7 ∨ (32 ≤ a.toNat / 4 ∧ a.toNat / 4 < 48) ∨
      ((8 ≤ a.toNat / 4 ∧ a.toNat / 4 < 16) ∨ (48 ≤ a.toNat / 4 ∧ a.toNat / 4 < 128) ∨ 254 ≤ a.toNat / 4) := by omega
  rcases this with w | w | w
  · rw [regAt_lastCksum w, writeReg]
  · rw [regAt_fb w, writeReg]
  · rw [regAt_unmapped w, writeReg]

/-- Settles O46: a write to a read-only or unmapped word takes its move from the inbox and no more. -/
theorem readOnlyWordsIgnoreWrites : Obligations.ReadOnlyWordsIgnoreWrites := by
  intro s a v rest hi w hw
  rw [step_write hi (by omega), requesterWrite, writeReg_readOnly v _ hw, ite_self]

/-- Settles O45: in IDLE each request register takes the value written, which reads back. -/
theorem requestRegistersReadBack : Obligations.RequestRegistersReadBack := by
  intro s a v rest hr hb hi w
  have lands : ∀ f, w ≠ 0 → writeReg v { s with inbox := rest } (regAt a) = writeRequest f { s with inbox := rest } →
      step s = .next (f { s with inbox := rest }) := fun f hw hf => by
    rw [step_writeReg hr hi hw, hf, writeRequest_idle (s := { s with inbox := rest }) f hb]
  refine ⟨fun hw => ?_, fun hw => ?_, fun hw => ?_, fun hw => ?_, fun hw => ?_, fun hw => ?_⟩
  · exact lands _ (by omega) (by rw [regAt_timeoutMs hw, writeReg])
  · exact lands _ (by omega) (by rw [regAt_desc hw, writeReg])
  · exact lands _ (by omega) (by rw [regAt_rawcfg hw, writeReg])
  · exact lands _ (by omega) (by rw [regAt_kcRange hw, writeReg])
  · refine ⟨_, lands _ (by omega) (by rw [regAt_pb hw, writeReg]), ?_, rfl, fun j hj hout => ?_⟩
    · rw [readWord, if_neg (by simp [hr]), regAt_pb hw]
      exact bufferWord_copyBytes _ _ _
    · exact (copyBytes_get _ _ _ j hj).trans (dif_neg hout)
  · refine ⟨_, lands _ (by omega) (by rw [regAt_cb hw, writeReg]), ?_, rfl, ?_, fun j hj hne => ?_⟩
    · rw [readWord, if_neg (by simp [hr]), regAt_cb hw, ← wordOfColour_colourOfWord]
      simp [regValue, State.cbColour]
    · simp [w]
    · exact Vector.getElem_set_ne (by omega) hj (Ne.symm hne)

/-- Settles O43: each word of the map reads as its register. -/
theorem readsFollowTheMap : Obligations.ReadsFollowTheMap := by
  intro s a hr w
  have read : readWord a s = regValue s (regAt a) := if_neg (by simp [hr])
  rw [read]
  refine ⟨fun h => ?_, fun h => ?_, fun h => ?_, fun h => ?_, fun h => ?_, fun h => ?_, fun h => ?_, fun h => ?_,
    fun h j hj => ?_, fun h hb j hj => ?_, fun h hw => ?_, fun h => ?_, fun h => ?_⟩
  · rw [regAt_cmd.2 h, regValue]
  · rw [regAt_status h, regValue]
  · rw [regAt_ctrl h, regValue, State.ctrlWord]
    exact (BitVec.toNat_append 0#31 _).trans (by simp)
  · rw [regAt_timeoutMs h, regValue]
  · rw [regAt_desc h, regValue]
  · rw [regAt_rawcfg h, regValue]
  · rw [regAt_kcRange h, regValue]
  · rw [regAt_lastCksum h, regValue, State.lastCksumWord]
    exact (BitVec.toNat_append 0#16 _).trans (by simp)
  · rw [regAt_pb h, regValue]
    exact bufferWord_byte _ _ j hj
  · rw [regAt_fb h, regValue, if_neg (by simp [hb])]
    exact bufferWord_byte _ _ j hj
  · have hget : s.cb[w - 128]? = some s.cb[w - 128] := Vector.getElem?_eq_getElem (by omega)
    rw [regAt_cb h, regValue, cbColour_written _ hget hw, wordOfColour, wordOfBytes_toNat]
    simp
  · rw [regAt_cb h, regValue]
    exact wordOfColour_top _
  · rw [regAt_unmapped h, regValue]

/-! ## STATUS and CTRL -/

/-- Settles O44: each field of STATUS is read back from its bits. -/
theorem statusWordLayout : Obligations.StatusWordLayout := by
  intro s
  have flags : s.statusWord.getLsbD 0 = s.busy ∧ s.statusWord.getLsbD 1 = s.txnOpen ∧ s.statusWord.getLsbD 2 = s.done ∧
      s.statusWord.getLsbD 3 = s.ovr := by
    simp only [State.statusWord, BitVec.getLsbD_append]
    simp
  have fields : s.statusWord.extractLsb' 4 4 = s.err.code ∧ s.statusWord.extractLsb' 8 4 = s.detail ∧
      s.statusWord.extractLsb' 12 4 = 0 ∧ s.statusWord.extractLsb' 16 8 = s.bodyAcked ∧
      s.statusWord.extractLsb' 24 3 = s.seq.code ∧ s.statusWord.extractLsb' 27 5 = 0 := by
    simp (disch := omega) only [State.statusWord, BitVec.extractLsb'_append_eq_of_le,
      BitVec.extractLsb'_append_eq_of_add_le]
    exact ⟨BitVec.extractLsb'_eq_self, BitVec.extractLsb'_eq_self, BitVec.extractLsb'_eq_self,
      BitVec.extractLsb'_eq_self, BitVec.extractLsb'_eq_self, BitVec.extractLsb'_eq_self⟩
  obtain ⟨hbusy, hopen, hdone, hovr⟩ := flags
  obtain ⟨herr, hdetail, hlow, hacked, hseq, htop⟩ := fields
  refine ⟨hbusy, hopen, hdone, hovr, ?_, hdetail, hlow, hacked, ?_, htop⟩
  · rw [herr]
    cases s.err <;> rfl
  · rw [hseq]
    cases s.seq <;> rfl

/-- Settles O40: a STATUS write clears the bits written 1. -/
theorem statusBitsClearByWritingOne : Obligations.StatusBitsClearByWritingOne := by
  intro s a v rest hr hi ha
  rw [step_writeReg hr hi (by omega), regAt_status ha, writeReg, clearStatus]
  cases v.getLsbD 2 <;> cases v.getLsbD 3 <;> simp

/-- The CTRL word with IRQ_EN the low bit of v is that bit of v (R28). -/
theorem ctrlWord_lowBit (v : Word) : 0#31 ++ BitVec.ofBool (v.getLsbD 0) = v &&& 1 := by
  apply BitVec.eq_of_getLsbD_eq
  intro i hi
  rw [BitVec.getLsbD_append, BitVec.getLsbD_and]
  by_cases h : i = 0
  · subst h; simp
  · rw [if_neg (by omega)]
    simp [BitVec.getLsbD_one, h]

theorem enterBody_flags (w : Bool) (s : State) : (enterBody w s).done = s.done ∧ (enterBody w s).ovr = s.ovr := by
  cases w <;> exact ⟨rfl, rfl⟩

/-- `Start` clears no flag and sets none: DONE and OVR stay as acceptance left them (R114, R116). -/
theorem specStart_flags (v : Word) (s : State) : (specStart v s).done = s.done ∧ (specStart v s).ovr = s.ovr := by
  rw [specStart_fields]
  split
  · exact ⟨rfl, rfl⟩
  split
  · exact ⟨rfl, rfl⟩
  split
  · exact enterBody_flags _ (chunkInit s)
  · exact enterBody_flags _ { s with bodyPend := true }

/-- Settles O41: `irq` is IRQ_EN and DONE, so it falls with the bit that is cleared. -/
theorem irqFollowsEnableAndDone : Obligations.IrqFollowsEnableAndDone := by
  intro s a v rest hr hi
  refine ⟨fun hw => ?_, fun hw hv => ?_, fun hw hb hv => ?_⟩
  · have hstep : step s = .next { s with inbox := rest, irqEn := v.getLsbD 0 } := by
      rw [step_writeReg hr hi (by omega), regAt_ctrl hw, writeReg, writeCtrl]
    refine ⟨hstep, fun t ht => ?_⟩
    obtain rfl := Host.Outcome.next.inj (hstep.symm.trans ht)
    refine ⟨rfl, ?_⟩
    rw [readWord, if_neg (by simp [hr]), regAt_ctrl hw, regValue]
    exact ctrlWord_lowBit v
  · refine ⟨clearStatus v { s with inbox := rest }, ?_, ?_⟩
    · rw [step_writeReg hr hi (by omega), regAt_status hw, writeReg]
    · simp [State.irq, clearStatus, hv]
  · refine ⟨_, (step_cmd hi hw).trans (runRequest_eq v _), ?_⟩
    rw [accept_ok (s := { s with inbox := rest }) v _ hr hb hv, State.irq, (specStart_flags v _).1]
    exact Bool.and_false _

/-! ## OVR -/

/-- No BUILD step touches OVR (R22, R118). -/
theorem buildStep_ovr {s t : State} (h : buildStep s = .next t) : t.ovr = s.ovr := by
  rcases buildStep_next h with ⟨_, _, rfl⟩ | ⟨_, _, f, _, rfl⟩ | ⟨_, _, e, _, rfl⟩ | ⟨_, ⟨_, rfl⟩ | ⟨_, rfl⟩⟩ <;> rfl

/-- An acceptance leaves OVR; a CMD write while BUSY sets it (R22). -/
theorem runRequest_ovr {v : Word} {s t : State} (h : runRequest v s = .next t) :
    t.ovr = (s.ovr || (!s.rst && s.busy)) := by
  rw [runRequest_eq] at h
  obtain rfl := Host.Outcome.next.inj h
  rcases accept_cases v (specValidate v) (specStart v) s with
    ⟨hr, ha⟩ | ⟨hr, hb, ha⟩ | ⟨e, hr, hb, -, ha⟩ | ⟨hr, hb, -, ha⟩ <;> rw [ha]
  · simp [hr]
  · simp [hr, hb]
  · simp [erroredAt, hb]
  · rw [(specStart_flags v _).2]
    simp [hb]

/-- A step that clears OVR is a STATUS write with bit 3 set, or drives `rst` (R22, R148). -/
theorem ovr_cleared {s t : State} (hs : step s = .next t) (h1 : s.ovr = true) (h0 : t.ovr = false) :
    (∃ a v rest, s.inbox = .write a v :: rest ∧ a.toNat / 4 = 1 ∧ v.getLsbD 3 = true) ∨ ∃ l rest, s.inbox = .rst l :: rest := by
  have changed : t.ovr ≠ s.ovr := by simp [h1, h0]
  rcases step_next hs with ⟨hu, -⟩ | ⟨u, hu, -, -, hb⟩ | ⟨-, -, he⟩ | ⟨a, rest, -, rfl⟩ |
    ⟨rest, -, rfl⟩ | ⟨a, v, rest, -, -, hc⟩ | ⟨a, v, rest, hi, -, rfl⟩ | ⟨l, rest, hi, -⟩
  · obtain ⟨i, rfl⟩ := hu.eq_inbox
    exact absurd rfl changed
  · obtain ⟨i, rfl⟩ := eq_inbox_of_buildMove hu
    exact absurd (buildStep_ovr hb) changed
  · obtain ⟨q, i, d, r, -, -, -, -, rfl⟩ := exchange_next he
    obtain ⟨-, -, -, hovr, -⟩ := respond_leaves r { s with inbox := i, draws := d, sent := s.sent ++ [⟨s.seq, q, r⟩] }
    exact absurd hovr changed
  · exact absurd rfl changed
  · obtain ⟨i, d, r, hp⟩ := pollIdle_records { s with inbox := rest }
    exact absurd (by rw [hp]) changed
  · have hovr := runRequest_ovr hc
    simp [h1, h0] at hovr
  · rcases requesterWrite_cases a v { s with inbox := rest } with
      hw | ⟨-, ha, hw⟩ | ⟨-, hw⟩ | ⟨-, -, hw⟩ | ⟨-, -, tm, d, rc, kc, p, c, hw⟩ <;> rw [hw] at h0 changed
    · exact absurd rfl changed
    · exact .inl ⟨a, v, rest, hi, ha, by simpa [clearStatus, h1] using h0⟩
    · exact absurd rfl changed
    · cases h0
    · exact absurd rfl changed
  · exact .inr ⟨l, rest, hi⟩

/-- Settles O39: which writes set OVR, which clear it, and that nothing else does. -/
theorem busyWritesSetOverrun : Obligations.BusyWritesSetOverrun := by
  refine ⟨rfl, fun s => ?_, fun s a v rest hr hi => ?_, fun s t hs h1 h0 => ovr_cleared hs h1 h0⟩
  · obtain ⟨-, -, -, hovr, -⟩ := statusWordLayout s
    exact hovr
  intro w request
  refine ⟨fun hb hw => ?_, fun hb hw => ?_, fun hw => ?_, fun hw hne => ?_⟩
  · by_cases h0 : w = 0
    · rw [step_cmd hi h0, runRequest_eq, accept_busy (s := { s with inbox := rest }) v _ _ hr hb]
    · obtain ⟨f, hf, -⟩ := writeReg_request v { s with inbox := rest } (hw.resolve_left h0)
      rw [step_writeReg hr hi h0, hf, writeRequest_busy (s := { s with inbox := rest }) f hb]
  · by_cases h0 : w = 0
    · refine ⟨_, (step_cmd hi h0).trans (runRequest_eq v _), ?_⟩
      simpa [hb] using runRequest_ovr (runRequest_eq v { s with inbox := rest })
    · obtain ⟨f, hf, hovr⟩ := writeReg_request v { s with inbox := rest } (hw.resolve_left h0)
      exact ⟨_, step_writeReg hr hi h0, by rw [hf, writeRequest_idle (s := { s with inbox := rest }) f hb, hovr]⟩
  · exact ⟨_, step_writeReg hr hi (by omega), by rw [regAt_status hw]; rfl⟩
  · refine ⟨_, step_writeReg hr hi (by omega), ?_⟩
    by_cases h2 : w = 2
    · rw [regAt_ctrl h2]
      rfl
    · rw [writeReg_readOnly v _ (by omega)]

end Sys2Proof.Machine

namespace Sys2Proof.Machine

/-! ## Whole-machine rules -/

/-- A step is an exchange of the frame in FB, or it sends nothing, keeps the faults recorded and leaves TXN_OPEN, which
besides an exchange only a move of `rst` changes, clearing it (R20, R47, R125, R148). -/
theorem step_exchange_or_quiet {s t : State} (h : step s = .next t) :
    exchange s.fb s = .next t ∨
      (t.sent = s.sent ∧ s.faultMarks <+: t.faultMarks ∧
        (t.txnOpen = s.txnOpen ∨ (t.txnOpen = false ∧ ∃ l rest, s.inbox = .rst l :: rest))) := by
  have quiet : t.sent = s.sent ∧ t.faultMarks = s.faultMarks ∧ t.txnOpen = s.txnOpen → t.sent = s.sent ∧
      s.faultMarks <+: t.faultMarks ∧
        (t.txnOpen = s.txnOpen ∨ (t.txnOpen = false ∧ ∃ l rest, s.inbox = .rst l :: rest)) :=
    fun ⟨hsent, hmarks, hopen⟩ => ⟨hsent, hmarks ▸ List.prefix_rfl, .inl hopen⟩
  rcases step_next h with ⟨hu, -⟩ | ⟨u, hu, -, -, hb⟩ | ⟨-, -, he⟩ | ⟨a, rest, -, rfl⟩ | ⟨rest, -, rfl⟩ |
    ⟨a, v, rest, -, -, hc⟩ | ⟨a, v, rest, -, -, rfl⟩ | ⟨l, rest, hi, rfl⟩
  · obtain ⟨i, rfl⟩ := hu.eq_inbox
    exact .inr (quiet ⟨rfl, rfl, rfl⟩)
  · obtain ⟨i, rfl⟩ := eq_inbox_of_buildMove hu
    obtain ⟨hsent, hopen, hmarks⟩ := buildStep_unchanged hb
    exact .inr ⟨hsent, hmarks, .inl hopen⟩
  · exact .inl he
  · exact .inr (quiet ⟨rfl, rfl, rfl⟩)
  · obtain ⟨i, d, r, hp⟩ := pollIdle_records { s with inbox := rest }
    exact .inr (quiet (by rw [hp]; exact ⟨rfl, rfl, rfl⟩))
  · have hquiet := runRequest_unchanged hc
    exact .inr (quiet hquiet)
  · exact .inr (quiet (requesterWrite_unchanged a v { s with inbox := rest }))
  · rw [driveReset]
    split_ifs
    · exact .inr ⟨rfl, List.prefix_rfl, .inr ⟨rfl, l, rest, hi⟩⟩
    · exact .inr ⟨rfl, List.prefix_rfl, .inr ⟨rfl, l, rest, hi⟩⟩
    · exact .inr ⟨rfl, List.prefix_rfl, .inl rfl⟩

/-- What an exchange records: the frame FB presents, with its permitted response (R45, R123, log 16). -/
theorem exchange_records {f : Frame} {s t : State} (h : exchange f s = .next t) :
    ∃ r, (s.seq = .sendStart ∨ s.seq = .sendBody ∨ s.seq = .sendEnd) ∧ permitted (s.seq == .sendBody) r = true ∧
      t.sent = s.sent ++ [⟨s.seq, ⟨s.fb, s.seq == .sendBody, s.timeoutMs⟩, r⟩] ∧ t.faultMarks = s.faultMarks ∧
      SameRequest s t ∧
      t.txnOpen =
        (if s.seq = .sendStart then r == .ok else if s.seq = .sendBody then s.txnOpen && r == .ok else false) := by
  obtain ⟨q, i, d, r, hport, -, hp, -, rfl⟩ := exchange_next h
  obtain ⟨-, hq, rfl⟩ := portRequest_some.1 hport
  obtain ⟨hsent, hmarks, hreq⟩ := respond_unchanged r
    { s with inbox := i, draws := d, sent := s.sent ++ [⟨s.seq, ⟨s.fb, s.seq == .sendBody, s.timeoutMs⟩, r⟩] }
  exact ⟨r, hq, hp, hsent, hmarks, hreq, respond_txnOpen r hq⟩

/-- Settles O53: only an exchange sends, and what it sends is the sealed frame in FB. -/
theorem everyFrameSentIsSealed : Obligations.EveryFrameSentIsSealed := by
  intro s t hinv hs
  rcases step_exchange_or_quiet hs with he | ⟨hsent, -⟩
  · obtain ⟨r, -, hp, hsent, -⟩ := exchange_records he
    exact .inr ⟨_, hsent, rfl, hinv.fb_sealed, hp, beq_iff_eq, rfl, hinv.start_frame, hinv.end_frame⟩
  · exact .inl hsent

/-- Settles O54: an exchange leaves the fault mark, every other step adds at its end at most. -/
theorem faultMarkIsNeverCleared : Obligations.FaultMarkIsNeverCleared := by
  intro s t hs
  rcases step_exchange_or_quiet hs with he | ⟨-, hmarks, -⟩
  · obtain ⟨r, -, -, -, hmarks, -⟩ := exchange_records he
    exact hmarks ▸ List.prefix_rfl
  · exact hmarks

/-- Settles O55: TXN_OPEN changes with the reaction to an exchange, by its phase and its response, or with `rst`. -/
theorem txnOpenFollowsTheExchanges : Obligations.TxnOpenFollowsTheExchanges := by
  intro s t hs
  rcases step_exchange_or_quiet hs with he | ⟨-, -, hopen | ⟨hclosed, hrst⟩⟩
  · obtain ⟨r, hq, -, hsent, -, -, hopen⟩ := exchange_records he
    refine ⟨fun h0 h1 => ?_, fun h1 h0 => .inr ⟨_, hsent, ?_⟩⟩
    · rcases hq with hq | hq | hq <;> simp [hq, h0, h1] at hopen
      subst hopen
      exact ⟨hq, _, hq ▸ hsent⟩
    · rcases hq with hq | hq | hq <;> simp [hq, h0, h1] at hopen
      · exact .inl hopen
      · exact .inl hopen
      · exact .inr hq
  · refine ⟨fun h0 h1 => ?_, fun h1 h0 => ?_⟩ <;> simp [h0, h1] at hopen
  · exact ⟨fun _ h1 => absurd (hclosed.symm.trans h1) (by decide), fun _ _ => .inl hrst⟩

/-- No BUILD step writes a request register (R54, R118). -/
theorem buildStep_sameRequest {s t : State} (h : buildStep s = .next t) : SameRequest s t := by
  rcases buildStep_next h with ⟨_, _, rfl⟩ | ⟨_, _, f, _, rfl⟩ | ⟨_, _, e, _, rfl⟩ | ⟨_, ⟨_, rfl⟩ | ⟨_, rfl⟩⟩ <;>
    exact ⟨rfl, rfl, rfl, rfl, rfl, rfl, rfl⟩

/-- Settles O56: while a command runs, a requester's write changes no request register, and no other agent has one. -/
theorem operandsAreFixedWhileBusy : Obligations.OperandsAreFixedWhileBusy := by
  intro s t hb hnrst hs
  have same : SameRequest s s := ⟨rfl, rfl, rfl, rfl, rfl, rfl, rfl⟩
  rcases step_next hs with ⟨hu, -⟩ | ⟨u, hu, -, -, hbuild⟩ | ⟨-, -, he⟩ | ⟨a, rest, -, rfl⟩ | ⟨rest, -, rfl⟩ |
    ⟨a, v, rest, -, -, hc⟩ | ⟨a, v, rest, -, -, rfl⟩ | ⟨l, rest, hi, -⟩
  · obtain ⟨i, rfl⟩ := hu.eq_inbox
    exact same
  · obtain ⟨i, rfl⟩ := eq_inbox_of_buildMove hu
    have hreq := buildStep_sameRequest hbuild
    exact hreq
  · obtain ⟨r, -, -, -, -, hreq, -⟩ := exchange_records he
    exact hreq
  · exact same
  · obtain ⟨⟨hreq, -⟩, -⟩ := pollIdle_unchanged { s with inbox := rest }
    exact hreq
  · rw [runRequest_eq] at hc
    obtain rfl := Host.Outcome.next.inj hc
    rcases accept_cases v (specValidate v) (specStart v) { s with inbox := rest } with
      ⟨-, ha⟩ | ⟨-, -, ha⟩ | ⟨-, -, hidle, -⟩ | ⟨-, hidle, -⟩
    · rw [ha]
      exact same
    · rw [ha]
      exact same
    · cases hb.symm.trans hidle
    · cases hb.symm.trans hidle
  · rcases requesterWrite_cases a v { s with inbox := rest } with
      hw | ⟨-, -, hw⟩ | ⟨-, hw⟩ | ⟨-, -, hw⟩ | ⟨-, hidle, -⟩
    · rw [hw]
      exact same
    · rw [hw]
      exact same
    · rw [hw]
      exact same
    · rw [hw]
      exact same
    · cases hb.symm.trans hidle
  · exact absurd hi (hnrst l rest)

end Sys2Proof.Machine

namespace Sys2Proof.Machine

/-! ## What requests and reads leave unchanged -/

/-- `Start` writes the frame side, BODY_PEND and SEQ_STATE, besides the chunker registers of KEYCOLORS (R104, R116). -/
theorem specStart_writes (v : Word) (s : State) :
    ∃ u f k a p q, (u = s ∨ (wordOp v = Op.keycolors ∧ u = chunkInit s)) ∧
      specStart v s = { u with fb := f, lastCksum := k, acc := a, bodyPend := p, seq := q } := by
  rw [specStart_fields]
  split
  · exact ⟨s, _, _, _, _, _, .inl rfl, rfl⟩
  split
  · exact ⟨s, _, _, _, _, _, .inl rfl, rfl⟩
  split
  · rename_i hk
    cases wordWrap v <;> exact ⟨_, _, _, _, _, _, .inr ⟨hk, rfl⟩, rfl⟩
  · cases wordWrap v <;> exact ⟨s, _, _, _, _, _, .inl rfl, rfl⟩

/-- A request word with OP 0x11 is KEYCOLORS (R57). -/
theorem eq_keycolors_of_wordOp {i : Instr} {v : Word} (h : i.asRequest = some v) (hop : wordOp v = Op.keycolors) :
    ∃ w, i = .keycolors w := by
  cases i <;> simp only [Instr.asRequest, Option.some.injEq, reduceCtorEq] at h <;> subst h <;>
    rw [wordOp_requestWord] at hop
  case keycolors w => exact ⟨w, rfl⟩
  all_goals exact absurd hop (by decide)

/-- Settles O15: an ignored word writes OVR at most, a refused one the command's outcome, and an accepted one the latches
and what `specStart_writes` lists. -/
theorem requestsLeaveTheRestUnchanged : Obligations.RequestsLeaveTheRestUnchanged := by
  intro i s t hi h
  obtain ⟨v, hv⟩ := Option.isSome_iff_exists.1 hi
  rw [exec_request hv] at h
  obtain rfl := Host.Outcome.next.inj h
  rcases accept_cases v (specValidate v) (specStart v) s with
    ⟨-, ha⟩ | ⟨-, hb, ha⟩ | ⟨e, -, hb, -, ha⟩ | ⟨-, hb, -, ha⟩ <;> rw [ha]
  · simp [SameOperands, SameChunker, SameRequest, SameFrame, SameLatches]
  · simp [SameOperands, SameChunker, SameRequest, SameFrame, SameLatches, hb]
  · simp [SameOperands, SameChunker, SameFrame, SameLatches, erroredAt, hb]
  · obtain ⟨u, f, k, a, p, q, hu, hs⟩ := specStart_writes v (latchWord v (storeWord v s))
    rw [hs]
    rcases hu with rfl | ⟨hop, rfl⟩
    · simp [SameOperands, SameChunker, hb]
    · obtain ⟨w, rfl⟩ := eq_keycolors_of_wordOp hv hop
      simp [SameOperands, hb]

/-- A requester read writes the model's records alone (R53). -/
theorem requesterRead_sameRegisters (a : Offset) (s : State) : SameRegisters s (requesterRead a s) := by
  simp [SameRegisters, SameRequest, SameChunker, SameFrame, SameLatches, SameStatus, requesterRead]

/-- Settles O42: the read's step is `requesterRead`, which hands over one value and writes no register. -/
theorem readsHaveNoSideEffect : Obligations.ReadsHaveNoSideEffect := by
  intro s a rest hi
  have same : SameRegisters s (requesterRead a { s with inbox := rest }) :=
    requesterRead_sameRegisters a { s with inbox := rest }
  exact ⟨_, step_read hi, same, rfl, rfl, rfl⟩

end Sys2Proof.Machine

namespace Sys2Proof

/-! ## The codec, both ways -/

/-- What decodes is the four bytes of a request word or the sixty-four of a frame (R56, R60). -/
theorem decode_ok {bs : List Byte} {i : Instr} (h : decode bs = .ok i) :
    (∃ v, bs = wordBytes v ∧ decodeRequest v = .ok i) ∨ ∃ f : Frame, bs = f.toList ∧ decodeFrame f = .ok i := by
  unfold decode at h
  split at h
  · rename_i b0 b1 b2 b3
    exact .inl ⟨wordOfBytes b0 b1 b2 b3, (wordBytes_wordOfBytes b0 b1 b2 b3).symm, h⟩
  · split at h
    · exact .inr ⟨_, rfl, h⟩
    · cases h

theorem encode_request {i : Instr} {v : Word} (h : i.asRequest = some v) : encode i = wordBytes v := by
  rw [encode, h]

theorem encode_frame {i : Instr} {f : Frame} (h : i.asFrame = some f) : encode i = f.toList := by
  rw [encode, asRequest_of_asFrame h, h]

/-- A request word has one spelling (R57). -/
theorem canonical_of_asRequest {i : Instr} {v : Word} (h : i.asRequest = some v) : i.canonical = true := by
  cases i
  case frameSubcommand => cases h
  all_goals rfl

/-- Reading a subcommand frame names a row that describes it, and the general row only where none does (log 8). -/
theorem decodeSubcommand_canonical (ck : Half) (d : Descriptor) (a : DataArea) :
    (decodeSubcommand ck d a).canonical = true := by
  cases hn : isNamed d a with
  | false => rw [decodeSubcommand_general hn, Instr.canonical, hn, Bool.not_false]
  | true =>
    have hne := decodeSubcommand_named hn ck
    unfold decodeSubcommand at hne ⊢
    split_ifs at hne ⊢
    all_goals first | rfl | exact absurd rfl hne

theorem decodeFrame_canonical {f : Frame} {i : Instr} (h : decodeFrame f = .ok i) : i.canonical = true := by
  unfold decodeFrame at h
  rcases of_ite_eq h with ⟨-, h⟩ | ⟨-, h⟩
  · rw [← Except.ok.inj h]; rfl
  rcases of_ite_eq h with ⟨-, h⟩ | ⟨-, h⟩
  · rw [← Except.ok.inj h]; rfl
  rcases of_ite_eq h with ⟨-, h⟩ | ⟨-, h⟩
  · rw [← Except.ok.inj h]; exact decodeSubcommand_canonical _ _ _
  rcases of_ite_eq h with ⟨-, h⟩ | ⟨-, h⟩
  · rw [← Except.ok.inj h]; rfl
  · cases h

/-- Every instruction is a request word or a frame (R56, R60). -/
theorem asRequest_or_asFrame (i : Instr) : (∃ v, i.asRequest = some v) ∨ ∃ f, i.asFrame = some f := by
  cases i <;> first | exact .inl ⟨_, rfl⟩ | exact .inr ⟨_, rfl⟩

/-- The request word of an instruction decodes to it (R57, R58). -/
theorem decodeRequest_asRequest {i : Instr} {v : Word} (h : i.asRequest = some v) : decodeRequest v = .ok i := by
  cases i <;> simp only [Instr.asRequest, Option.some.injEq, reduceCtorEq] at h <;> subst h <;>
    rw [decodeRequest_requestWord] <;> simp

/-- The frame of a canonical instruction decodes to it (R65 to R68, R82; log 8). -/
theorem decodeFrame_asFrame {i : Instr} {f : Frame} (h : i.asFrame = some f) (hc : i.canonical = true) :
    decodeFrame f = .ok i := by
  have one : ∀ b : Byte, allZero ((dataArea [b]).toList.drop 1) = true := fun b => zeros_dataArea [b] 1 le_rfl
  have three : ∀ r g b : Byte, allZero ((dataArea [r, g, b]).toList.drop 3) = true := fun r g b =>
    zeros_dataArea [r, g, b] 3 le_rfl
  cases i <;> simp only [Instr.asFrame, Option.some.injEq, reduceCtorEq] at h <;> subst h
  case frameStart => exact decodeFrame_start
  case frameEnd => exact decodeFrame_end
  case frameKeycolors => exact decodeFrame_encKeycolors _ _ _ _
  case frameSubcommand ck d a =>
    rw [decodeFrame_encSubcommand, decodeSubcommand_general (by simpa [Instr.canonical] using hc)]
  all_goals
    rw [decodeFrame_encSubcommand]
    simp [decodeSubcommand, one, three, descMode, descBrightness, descDelay, descDirection, descColorful, descColor,
      descRate, -List.drop_one]

/-- Settles O1: a decoded instruction is canonical, and a canonical one is read back from its word or its frame. -/
theorem decodeEncodeIsIdentity : Obligations.DecodeEncodeIsIdentity := by
  have canonical_ok : ∀ i : Instr, i.canonical = true → decode (encode i) = .ok i := fun i hc => by
    rcases asRequest_or_asFrame i with ⟨v, hv⟩ | ⟨f, hf⟩
    · rw [encode_request hv, decode_wordBytes, decodeRequest_asRequest hv]
    · rw [encode_frame hf, decode_frame, decodeFrame_asFrame hf hc]
  refine ⟨fun i => ⟨fun h => ?_, canonical_ok i⟩, fun i hwf => canonical_ok i ?_⟩
  · rcases decode_ok h with ⟨v, -, hv⟩ | ⟨f, -, hf⟩
    · exact canonical_of_asRequest (decodeRequest_ok hv)
    · exact decodeFrame_canonical hf
  · simp only [Instr.wf, Bool.and_eq_true] at hwf
    obtain ⟨⟨hc, -⟩, -⟩ := hwf
    exact hc

/-- Settles O2: what decodes is the encoding of its instruction, of either length. -/
theorem encodeDecodeIsIdentity : Obligations.EncodeDecodeIsIdentity := by
  intro bs i h
  rcases decode_ok h with ⟨v, rfl, hv⟩ | ⟨f, rfl, hf⟩
  · exact encode_request (decodeRequest_ok hv)
  · exact encode_frame (decodeFrame_ok hf)

end Sys2Proof

namespace Sys2Proof.Machine

/-! ## Request words -/

/-- Settles O7: TXN_BEGIN passes its check and starts by presenting START. -/
theorem txnBeginPresentsStart : Obligations.TxnBeginPresentsStart := by
  intro s hr hb ht
  have hc : checkTxnBegin s = none := if_neg (by simp [ht])
  refine congrArg Host.Outcome.next ?_
  rw [accept_ok _ _ hr hb hc, latch_store, presentStart_eq]
  rfl

/-- Settles O8: TXN_END passes its check and starts by presenting END. -/
theorem txnEndPresentsEnd : Obligations.TxnEndPresentsEnd := by
  intro s hr hb ht
  have hc : checkTxnEnd s = none := if_pos ht
  refine congrArg Host.Outcome.next ?_
  rw [accept_ok _ _ hr hb hc, latch_store, presentEnd_eq]
  rfl

/-- A word that decodes is not one that `Validate` calls illegal (R57, R58, R59). -/
theorem legal_of_decodeRequest_ok {v : Word} {i : Instr} (h : decodeRequest v = .ok i) :
    ¬ (inOpMap (wordOp v) = false ∨ wordReserved v ≠ 0 ∨
      ((wordOp v = Op.txnBegin ∨ wordOp v = Op.txnEnd) ∧ wordWrap v = true)) := by
  have hv := decodeRequest_ok h
  cases i <;> simp only [Instr.asRequest, Option.some.injEq, reduceCtorEq] at hv <;> subst hv <;>
    simp [inOpMap, isBodyOp]

/-- An illegal word written in IDLE ends with ILLEGAL_REQUEST (R59, R114). -/
theorem rejectWord_idle {s : State} (v : Word) (hr : s.rst = false) (hb : s.busy = false) :
    rejectWord v s = erroredAt v ⟨.illegalRequest, 0⟩ s :=
  accept_err v id hr hb rfl

/-- Settles O11: `Validate`'s illegal words are those that decode to no instruction, and such a word is refused at
acceptance. -/
theorem illegalWordsEndAtOnce : Obligations.IllegalWordsEndAtOnce := by
  refine ⟨fun v => ⟨fun ⟨e, he⟩ => illegal_of_decodeRequest_error he, fun hill => ?_⟩,
    fun s v rest hr hb hi ⟨e, he⟩ => ?_⟩
  · cases hd : decodeRequest v with
    | error e => exact ⟨e, rfl⟩
    | ok i => exact absurd hill (legal_of_decodeRequest_ok hd)
  · obtain ⟨-, hillegal⟩ := stepRunsTheRequestWord s 0 v rest hi rfl
    rw [hillegal e he, rejectWord_idle (s := { s with inbox := rest }) v hr hb]
    rfl

/-! ## Frames -/

/-- A named setting's frame is SUBCOMMAND's when DESC holds its descriptor and PLEN its length (R75, R82, R84). -/
theorem bodyNamed_eq_bodySubcommand {s : State} {d : Descriptor} {n : Nat} (hd : s.descBytes = [d.d0, d.d1, d.d2, d.d3])
    (hn : s.plen.toNat = n) : bodyNamed d n s = bodySubcommand s := by
  rw [bodyNamed, bodySubcommand, hd, hn]

/-- Settles O21: each setting's descriptor word is its descriptor's bytes. -/
theorem namedSettingEqualsSubcommand : Obligations.NamedSettingEqualsSubcommand := by
  intro s
  have named : ∀ (w : Word) (d : Descriptor) (n : Byte), wordBytes w = [d.d0, d.d1, d.d2, d.d3] → s.plen = n →
      s.desc = w → bodyNamed d n.toNat s = bodySubcommand s := fun w d n hw hn hd =>
    bodyNamed_eq_bodySubcommand (by rw [State.descBytes, hd, hw]) (congrArg BitVec.toNat hn)
  refine ⟨fun hn => ⟨?_, ?_, ?_, ?_, ?_, ?_⟩, fun hn => ?_⟩
  · exact named _ descMode 1 (by decide) hn
  · exact named _ descBrightness 1 (by decide) hn
  · exact named _ descDelay 1 (by decide) hn
  · exact named _ descDirection 1 (by decide) hn
  · exact named _ descColorful 1 (by decide) hn
  · exact named _ descRate 1 (by decide) hn
  · exact named _ descColor 3 (by decide) hn

/-- Settles O29: past its length check the builder is `controlFrame`, read byte by byte. -/
theorem controlFrameBytes : Obligations.ControlFrameBytes := by
  intro tag c p off
  refine ⟨fun h => if_pos h, fun h => ⟨controlFrame tag c p off, if_neg (not_lt.2 h), fun i hi => ?_⟩⟩
  exact controlFrame_get tag c p off i hi

/-- Sealing a frame keeps every byte from the command on (R96). -/
theorem sealFrame_get_of_le (f : Frame) {i : Nat} (h3 : 3 ≤ i) (hi : i < 64) : (sealFrame f)[i] = f[i] := by
  rw [sealFrame_get, if_neg (by omega), if_neg (by omega)]

/-- A stretch of a frame read back as a list. -/
theorem take_drop_toList {f : Frame} {o n : Nat} {bs : List Byte} (hn : bs.length = n) (hlen : o + n ≤ 64)
    (h : ∀ i (_ : i < n), f[o + i] = bs[i]) : (f.toList.drop o).take n = bs := by
  apply List.ext_getElem
  · simp; omega
  · intro i h1 h2
    rw [List.getElem_take, List.getElem_drop, Vector.getElem_toList, h i (hn ▸ h2)]

/-- Settles O30: the builder's bytes, none of which past byte 2 the seal changes. -/
theorem subcommandFrameRoundTrip : Obligations.SubcommandFrameRoundTrip := by
  intro d a hd
  refine ⟨fun h => if_pos (by simp only [Config.subcmdArgOffset, Config.packetSize]; omega), fun ha => ?_⟩
  obtain ⟨f, hf, hget⟩ := buildSubcommandFrame_ok d a hd ha
  refine ⟨f, hf, hget 1 (by omega), hget 2 (by omega), ?_, ?_, ?_, ?_, sealed_sealFrame f, fun i hi h => ?_⟩
  · refine take_drop_toList hd (by omega) fun i hi => ?_
    rw [sealFrame_get_of_le f (by omega), hget _ (by omega), dif_neg (by omega), dif_pos (by omega)]
    exact getElem_congr_idx (Nat.add_sub_cancel_left _ _)
  · refine take_drop_toList rfl (by omega) fun i hi => ?_
    rw [sealFrame_get_of_le f (by omega), hget _ (by omega), dif_pos (by omega)]
    exact getElem_congr_idx (Nat.add_sub_cancel_left _ _)
  · exact (sealFrame_get f 0 (by omega)).trans (hget 0 (by omega))
  · exact (sealFrame_get f 3 (by omega)).trans (hget 3 (by omega))
  · rw [sealFrame_get_of_le f (by omega), hget i hi, dif_neg (by omega), dif_neg (by omega), if_neg (by omega)]

/-- The bytes of a run of colours: red, green and blue of each key (R68). -/
def colourBytes (cs : List Colour) : List Byte := cs.flatMap fun c => [c.r, c.g, c.b]

theorem colourBytes_length (cs : List Colour) : (colourBytes cs).length = 3 * cs.length := by
  simp [colourBytes, List.length_flatMap, Nat.mul_comm]

theorem colourBytes_getElem? (cs : List Colour) (j : Nat) (h : j < cs.length) :
    (colourBytes cs)[3 * j]? = some cs[j].r ∧ (colourBytes cs)[3 * j + 1]? = some cs[j].g ∧
      (colourBytes cs)[3 * j + 2]? = some cs[j].b := by
  induction cs generalizing j with
  | nil => cases h
  | cons c cs ih =>
    cases j with
    | zero => exact ⟨rfl, rfl, rfl⟩
    | succ j => exact ih j (Nat.lt_of_succ_lt_succ h)

/-- The eight bytes before the colours of an unsealed key-color frame (R68). -/
def keyColorHeader (start n : Nat) : List Byte :=
  [4, 0, 0, 0x11, BitVec.ofNat 8 (3 * n), BitVec.ofNat 8 (3 * start % 256), BitVec.ofNat 8 (3 * start / 256), 0]

/-- A key-color frame, byte by byte: the header, then the colours' bytes, then zeros (R68, R105). -/
theorem keyColorFrame_get (s n : Nat) (cs : List Colour) (i : Nat) (h : i < 64) :
    (keyColorFrame s n cs)[i] =
      if 8 ≤ i then ((colourBytes cs)[i - 8]?).getD 0 else (keyColorHeader s n).getD i 0 := by
  rw [keyColorFrame, ← colourBytes, copyBytes_get]
  by_cases h8 : 8 ≤ i
  · rw [if_pos h8]
    by_cases hin : i < 8 + (colourBytes cs).length
    · rw [dif_pos ⟨h8, hin⟩, List.getElem?_eq_getElem (by omega)]
      rfl
    · rw [dif_neg fun hc => hin hc.2, List.getElem?_eq_none (by omega), controlFrame_get, dif_neg (by simp; omega),
        if_neg (by omega), if_neg (by omega)]
      rfl
  · rw [if_neg h8, dif_neg fun hc => h8 hc.1, controlFrame_get]
    have : i = 0 ∨ i = 1 ∨ i = 2 ∨ i = 3 ∨ i = 4 ∨ i = 5 ∨ i = 6 ∨ i = 7 := by omega
    rcases this with rfl | rfl | rfl | rfl | rfl | rfl | rfl | rfl <;> rfl

/-- Settles O32: the header's numbers fit their bytes, and the seal changes bytes 1 and 2 alone. -/
theorem keyColorFrameBytes : Obligations.KeyColorFrameBytes := by
  intro s n cs hn h1 h18 hs f
  have byte : ∀ i (h3 : 3 ≤ i) (hi : i < 64), f[i] = (keyColorFrame s n cs)[i] := fun i h3 hi =>
    sealFrame_get_of_le _ h3 hi
  have data : ∀ i b (hi : 8 + i < 64), (colourBytes cs)[i]? = some b → f[8 + i] = b :=
    fun i b hi hb => by
      rw [byte _ (by omega), keyColorFrame_get, if_pos (by omega), Nat.add_sub_cancel_left, hb]
      rfl
  refine ⟨?_, sealed_sealFrame _, ?_, ?_, ?_, ?_, ?_, fun j hj => ?_, fun i hi h => ?_⟩
  · exact congrArg BitVec.toNat ((sealFrame_get _ 0 (by omega)).trans (keyColorFrame_get s n cs 0 (by omega)))
  · rw [byte 3 (by omega), keyColorFrame_get]
    rfl
  · rw [byte 4 (by omega), keyColorFrame_get]
    exact Nat.mod_eq_of_lt (by omega)
  · rw [byte 5 (by omega), keyColorFrame_get]
    exact Nat.mod_eq_of_lt (by omega)
  · rw [byte 6 (by omega), keyColorFrame_get]
    exact Nat.mod_eq_of_lt (by omega)
  · rw [byte 7 (by omega), keyColorFrame_get]
    rfl
  · obtain ⟨hr, hg, hb⟩ := colourBytes_getElem? cs j (by omega)
    have hg' : f[8 + (3 * j + 1)]'(by omega) = cs[j].g := data _ _ (by omega) hg
    have hb' : f[8 + (3 * j + 2)]'(by omega) = cs[j].b := data _ _ (by omega) hb
    refine ⟨data _ _ (by omega) hr, ?_, ?_⟩
    · rw [← hg']
      exact getElem_congr_idx (by omega)
    · rw [← hb']
      exact getElem_congr_idx (by omega)
  · rw [byte i (by omega), keyColorFrame_get, if_pos (by omega),
      List.getElem?_eq_none (by rw [colourBytes_length]; omega)]
    rfl

/-- Settles O31: START and END are sealed to the frames of R65 and R66. -/
theorem startAndEndFrameBytes : Obligations.StartAndEndFrameBytes := by
  refine ⟨?_, ?_⟩
  · exact (congrArg Vector.toList sealFrame_start).trans (by decide +kernel)
  · exact (congrArg Vector.toList sealFrame_end).trans (by decide +kernel)

/-- Settles O3: each legal word and frame is the encoding of its instruction, which is canonical. -/
theorem sampleWordsDecode : Obligations.SampleWordsDecode := by
  refine ⟨?_, ?_, ?_, ?_, by decide, by decide, by decide, ?_, ?_, ?_, ?_⟩
  · exact decodeRequest_asRequest (by decide)
  · exact decodeRequest_asRequest (by decide)
  · exact decodeRequest_asRequest (by decide)
  · exact decodeRequest_asRequest (by decide)
  · exact decodeFrame_asFrame (by decide +kernel) rfl
  · exact decodeFrame_asFrame (by decide +kernel) rfl
  · exact decodeFrame_asFrame (by decide +kernel) rfl
  · exact decodeFrame_asFrame (by decide +kernel) rfl

end Sys2Proof.Machine

namespace Sys2Proof

/-! ## Sums of data areas -/

/-- A data area is its bytes and zeros (R64). -/
theorem dataArea_toList (bs : List Byte) (h : bs.length ≤ 56) :
    (dataArea bs).toList = bs ++ List.replicate (56 - bs.length) 0 := by
  apply List.ext_getElem
  · simp; omega
  · intro i h1 h2
    rw [Vector.getElem_toList, dataArea_get, List.getElem_append, List.getD_eq_getElem?_getD]
    split
    · rename_i hi; rw [List.getElem?_eq_getElem hi]; rfl
    · rename_i hi; rw [List.getElem?_eq_none (by omega), List.getElem_replicate]; rfl

/-- The zeros of a data area add nothing to a sum (R64, R94). -/
theorem sumBytes_dataArea (xs bs : List Byte) (h : bs.length ≤ 56) :
    sumBytes (xs ++ (dataArea bs).toList) = sumBytes (xs ++ bs) := by
  simp [sumBytes, dataArea_toList bs h]

/-- The sum of a one-byte setting's frame (R82, R94). -/
theorem sumBytes_oneArg (b : Byte) {a : DataArea} (h : allZero (a.toList.drop 1) = true) :
    sumBytes ([6, 1, b, 0, 0] ++ a.toList) = sumBytes [6, 1, b, a[0]] := by
  have hsum := sumBytes_dataArea [6, 1, b, 0, 0] [a[0]] (by simp)
  rw [dataArea_one a h] at hsum
  rw [hsum]
  simp [sumBytes]

/-- The sum of a COLOR frame (R82, R94). -/
theorem sumBytes_colorArg {a : DataArea} (h : allZero (a.toList.drop 3) = true) :
    sumBytes ([6, 3, 5, 0, 0] ++ a.toList) = sumBytes [6, 3, 5, a[0], a[1], a[2]] := by
  have hsum := sumBytes_dataArea [6, 3, 5, 0, 0] [a[0], a[1], a[2]] (by simp)
  rw [dataArea_three a h] at hsum
  rw [hsum]
  simp [sumBytes]

/-- Bytes 3 to 63 of a frame, which the checksum sums (R60, R94). -/
theorem toList_drop_three (f : Frame) : f.toList.drop 3 = [f[3], f[4], f[5], f[6], f[7]] ++ (frameData f).toList := by
  conv => lhs; rw [← frame64_bytes f, frame64, Vector.toList_append]
  rfl

end Sys2Proof

namespace Sys2Proof.Machine

/-! ## Built frames are well formed -/

/-- The checksum field of a sealed frame is the sum of its bytes from the command on (R62, R94). -/
theorem checksumField_of_sealed {f : Frame} (h : Sealed f) : frameChecksumField f = sumBytes (f.toList.drop 3) := by
  have hs := (sealed_iff f).1 h
  have h1 : f[1] = loByte (accumulate f) := by
    conv => lhs; rw [← hs]
    exact sealFrame_get f 1 (by omega)
  have h2 : f[2] = hiByte (accumulate f) := by
    conv => lhs; rw [← hs]
    exact sealFrame_get f 2 (by omega)
  rw [frameChecksumField, h1, h2, halfOfBytes_lo_hi, accumulate_eq]
  rfl

/-- A subcommand frame with the right checksum is well formed, whichever row names it (R62, R67, R82; log 8). -/
theorem decodeSubcommand_wf {ck : Half} {d : Descriptor} {a : DataArea}
    (hck : ck = sumBytes ([6, d.d0, d.d1, d.d2, d.d3] ++ a.toList)) : (decodeSubcommand ck d a).wf = true := by
  have one : ∀ b, (allZero (a.toList.drop 1) && d == ⟨1, b, 0, 0⟩) = true → (ck == sumBytes [6, 1, b, a[0]]) = true :=
    fun b h => by
      obtain ⟨hz, hd⟩ := Bool.and_eq_true_iff.1 h
      obtain rfl := beq_iff_eq.1 hd
      exact beq_iff_eq.2 (hck.trans (sumBytes_oneArg b hz))
  obtain ⟨hshape, hseal⟩ : (decodeSubcommand ck d a).shaped = true ∧ (decodeSubcommand ck d a).sealed = true := by
    unfold decodeSubcommand
    split_ifs with h1 h2 h3 h4 h5 h6 h7
    · exact ⟨rfl, one _ h1⟩
    · exact ⟨rfl, one _ h2⟩
    · exact ⟨rfl, one _ h3⟩
    · exact ⟨rfl, one _ h4⟩
    · exact ⟨rfl, one _ h5⟩
    · obtain ⟨hz, hd⟩ := Bool.and_eq_true_iff.1 h6
      obtain rfl := beq_iff_eq.1 hd
      exact ⟨rfl, beq_iff_eq.2 (hck.trans (sumBytes_colorArg hz))⟩
    · exact ⟨rfl, one _ h7⟩
    · exact ⟨rfl, beq_iff_eq.2 hck⟩
  rw [Instr.wf, decodeSubcommand_canonical, hshape, hseal]
  rfl

/-- A sealed frame with the tag and the command of R67 is a well-formed subcommand frame. -/
theorem subcommandFrame_wf {f : Frame} (hs : Sealed f) (h0 : f[0] = Config.ctrlTag) (h3 : f[3] = Config.cmdSubcommand) :
    ∃ i, decodeFrame f = .ok i ∧ i.wf = true := by
  have hd := decodeFrame_encSubcommand (frameChecksumField f) ⟨f[4], f[5], f[6], f[7]⟩ (frameData f)
  rw [encSubcommand_fields f h0 h3] at hd
  refine ⟨_, hd, decodeSubcommand_wf ?_⟩
  rw [checksumField_of_sealed hs, toList_drop_three, h3]
  rfl

/-- A frame that is zero from byte 8 + n on has a data area that is zero from its n-th byte on (R64). -/
theorem allZero_drop_frameData {f : Frame} {n : Nat} (h : ∀ i (_ : i < 64), 8 + n ≤ i → f[i] = 0) :
    allZero ((frameData f).toList.drop n) = true := by
  rw [allZero_iff]
  intro b hb
  obtain ⟨k, hk, rfl⟩ := List.getElem_of_mem hb
  simp only [List.length_drop, Vector.length_toList] at hk
  rw [List.getElem_drop, Vector.getElem_toList, frameData_get]
  exact h _ (by omega) (by omega)

/-- A key-color frame for n keys from key s is, sealed, a well-formed frame instruction (R68, R105). -/
theorem keyColorFrame_wf {s n : Nat} {cs : List Colour} (hn : cs.length = n) (h1 : 1 ≤ n) (h18 : n ≤ 18)
    (hsn : s + n ≤ 126) : ∃ i, decodeFrame (sealFrame (keyColorFrame s n cs)) = .ok i ∧ i.wf = true := by
  obtain ⟨h0, hs, h3, h4, h5, h6, h7, -, hz⟩ := keyColorFrameBytes s n cs hn h1 h18 hsn
  generalize sealFrame (keyColorFrame s n cs) = f at h0 hs h3 h4 h5 h6 h7 hz ⊢
  have b0 : f[0] = Config.kcTag := BitVec.eq_of_toNat_eq h0
  have b3 : f[3] = Config.cmdKeycolors := BitVec.eq_of_toNat_eq h3
  have b7 : f[7] = 0 := BitVec.eq_of_toNat_eq h7
  have hd := decodeFrame_encKeycolors (frameChecksumField f) f[4] (halfOfBytes f[5] f[6]) (frameData f)
  rw [encKeycolors_fields f b0 b3 b7] at hd
  have hoff : (halfOfBytes f[5] f[6]).toNat = 3 * s := by
    have hlo := loByte_toNat (halfOfBytes f[5] f[6])
    have hhi := hiByte_toNat (halfOfBytes f[5] f[6])
    rw [loByte_halfOfBytes] at hlo
    rw [hiByte_halfOfBytes] at hhi
    omega
  have hzero : allZero ((frameData f).toList.drop f[4].toNat) = true :=
    allZero_drop_frameData fun i hi h => hz i hi (by omega)
  have hshape : keycolorsShape f[4] (halfOfBytes f[5] f[6]) (frameData f) = true := by
    simp only [keycolorsShape, Bool.and_eq_true, decide_eq_true_eq, Config.maxKcBytes, Config.maxKey]
    exact ⟨⟨⟨⟨⟨by omega, by omega⟩, by omega⟩, by omega⟩, by omega⟩, hzero⟩
  have hseal : frameChecksumField f =
      sumBytes ([(0x11 : Byte), f[4], loByte (halfOfBytes f[5] f[6]), hiByte (halfOfBytes f[5] f[6])] ++
        (frameData f).toList) := by
    rw [checksumField_of_sealed hs, toList_drop_three, b3, b7, loByte_halfOfBytes, hiByte_halfOfBytes]
    simp [sumBytes]
  refine ⟨_, hd, ?_⟩
  rw [Instr.wf, Bool.and_eq_true]
  exact ⟨hshape, beq_iff_eq.2 hseal⟩

/-- The run of keys of a KEYCOLORS command ends at key 125 (R101). -/
theorem kcStart_add_clamped {s : State} (h : s.clamped > 0) : s.kcStart.toNat + s.clamped ≤ 126 := by
  revert h
  rw [State.clamped, clampedCount]
  split_ifs <;> simp only [Config.maxKey] at * <;> omega

/-- The keys of the next chunk are among keys 0 to 125 (R101, R106). -/
theorem chunk_in_range {s : State} (h : s.Inv) (hb : s.busy = true) (hk : s.curOp = Op.keycolors) (hrem : s.kcRem ≠ 0) :
    1 ≤ s.chunkKeys ∧ s.chunkKeys ≤ 18 ∧ s.kcBase.toNat + s.kcPos.toNat + s.chunkKeys ≤ 126 := by
  have hne : s.kcRem.toNat ≠ 0 := fun hc => hrem (BitVec.eq_of_toNat_eq hc)
  obtain ⟨hclamp, hbase⟩ := h.chunk_clamped hb hk
  have hpos : s.clamped > 0 := by omega
  have hend := kcStart_add_clamped hpos
  have hkeys : s.chunkKeys = min s.kcRem.toNat 18 := rfl
  rw [hbase hpos]
  omega

theorem chunkColours_length (s : State) : s.chunkColours.length = s.chunkKeys := by simp [State.chunkColours]

/-- The body frame of a command other than RAW_FRAME is the subcommand builder's (R82, R84 to R91). -/
theorem bodyFrame_subcommandFrame {s : State} {f : Frame} (h : bodyFrame s = some (.ok f))
    (hr : s.curOp ≠ Op.rawFrame) :
    ∃ d a, d.length = 4 ∧ buildSubcommandFrame d a = .ok f := by
  unfold bodyFrame at h
  split_ifs at h
  · exact ⟨_, _, rfl, Option.some.inj h⟩
  all_goals exact ⟨[_, _, _, _], _, rfl, Option.some.inj h⟩

/-- A frame the subcommand builder answers has the tag and the command of R67. -/
theorem buildSubcommandFrame_header {d a : List Byte} {f : Frame} (hd : d.length = 4)
    (h : buildSubcommandFrame d a = .ok f) : f[0] = Config.ctrlTag ∧ f[3] = Config.cmdSubcommand := by
  by_cases ha : a.length ≤ 56
  · obtain ⟨g, hg, hget⟩ := buildSubcommandFrame_ok d a hd ha
    obtain rfl := Except.ok.inj (hg.symm.trans h)
    exact ⟨hget 0 (by omega), hget 3 (by omega)⟩
  · obtain ⟨hlong, -⟩ := subcommandFrameRoundTrip d a hd
    cases (hlong (not_le.1 ha)).symm.trans h

/-- Settles O59: BUILD presents a chunk's key-color frame, a subcommand frame, or END. -/
theorem builtFramesAreWellFormed : Obligations.BuiltFramesAreWellFormed := by
  intro s t hinv hq hraw hb hne
  have hbusy : s.busy = true := hinv.busy_iff.2 (by simp [hq])
  rcases buildStep_next hb with ⟨hk, hrem, rfl⟩ | ⟨-, -, f, hf, rfl⟩ | ⟨-, -, e, -, rfl⟩ | ⟨-, ⟨-, rfl⟩ | ⟨-, rfl⟩⟩
  · obtain ⟨h1, h18, hend⟩ := chunk_in_range hinv hbusy hk hrem
    exact keyColorFrame_wf (chunkColours_length s) h1 h18 hend
  · obtain ⟨d, a, hd, hbuilt⟩ := bodyFrame_subcommandFrame hf hraw
    obtain ⟨h0, h3⟩ := buildSubcommandFrame_header hd hbuilt
    refine subcommandFrame_wf (f := sealFrame f) (sealed_sealFrame f) ?_ ?_
    · exact (sealFrame_get f 0 (by omega)).trans h0
    · exact (sealFrame_get f 3 (by omega)).trans h3
  · exact absurd rfl hne
  · refine ⟨.frameEnd, ?_, rfl⟩
    rw [presentEnd_fb, sealFrame_end, frameOfBytes_end, decodeFrame_end]
  · exact absurd rfl hne

end Sys2Proof.Machine

namespace Sys2Proof.Machine

/-! ## Moves owed until IDLE -/

/-- The body frames still to be acknowledged: the chunks of KC_REM, or the one frame to build or presented (R35, R108). -/
def State.framesLeft (s : State) : Nat :=
  if s.curOp = Op.keycolors then (s.kcRem.toNat + 17) / 18 else if s.bodyPend ∨ s.seq = .sendBody then 1 else 0

/-- At most how many owed moves end the command: two for each body frame, and those of START and END (R118, R161). -/
def State.movesLeft (s : State) : Nat :=
  match s.seq with
  | .idle => 0
  | .sendStart => 2 * s.framesLeft + 3
  | .build => 2 * s.framesLeft + 2
  | .sendBody => 2 * s.framesLeft + 1
  | .sendEnd => 1

theorem movesLeft_le {s : State} (h : s.Inv) : s.movesLeft ≤ 17 := by
  have hf : s.framesLeft ≤ 7 := by
    have := h.chunk_total
    unfold State.framesLeft
    split_ifs <;> omega
  unfold State.movesLeft
  cases s.seq <;> simp only <;> omega

theorem movesLeft_pos {s : State} (h : s.seq ≠ .idle) : 0 < s.movesLeft := by
  unfold State.movesLeft
  cases hq : s.seq <;> simp_all

/-- Of a running command a BUILD step is never refused (R118). -/
theorem buildStep_goes_on {s : State} (h : s.Inv) (hq : s.seq = .build) : ∃ t, buildStep s = .next t := by
  by_cases hk : s.curOp = Op.keycolors
  · by_cases hrem : s.kcRem = 0
    · exact ⟨_, buildStep_last (by rwa [if_pos hk])⟩
    · exact ⟨_, buildStep_chunk hk hrem⟩
  · cases hp : s.bodyPend with
    | false => exact ⟨_, buildStep_last (by rwa [if_neg hk])⟩
    | true =>
      cases hf : bodyFrame s with
      | none => exact absurd hf (bodyFrame_isSome (h.body_op (.inl hq)) hk)
      | some r =>
        cases r with
        | error e => exact ⟨_, buildStep_raise hp hk hf⟩
        | ok f => exact ⟨_, buildStep_body hp hk hf⟩

/-- A BUILD step brings the command nearer to its end (R118). -/
theorem buildStep_movesLeft {s t : State} (hq : s.seq = .build) (h : buildStep s = .next t) :
    t.movesLeft < s.movesLeft := by
  have hpos := movesLeft_pos (s := s) (by simp [hq])
  rcases buildStep_next h with ⟨hk, -, rfl⟩ | ⟨hk, hpend, f, -, rfl⟩ | ⟨-, -, e, -, rfl⟩ | ⟨-, ⟨-, rfl⟩ | ⟨-, rfl⟩⟩
  · simp [State.movesLeft, State.framesLeft, hq, hk]
  · simp only [Op.keycolors] at hk
    simp [State.movesLeft, State.framesLeft, hq, hk, hpend]
  · exact hpos
  · simp [State.movesLeft, hq]
  · exact hpos

/-- The reaction to any response brings the command nearer to its end (R117, R119, R120, R122). -/
theorem respond_movesLeft (r : Response) {s : State} (h : s.Inv)
    (hq : s.seq = .sendStart ∨ s.seq = .sendBody ∨ s.seq = .sendEnd) : (respond r s).movesLeft < s.movesLeft := by
  have hpos := movesLeft_pos (s := s) (by rcases hq with hq | hq | hq <;> simp [hq])
  by_cases hok : r = .ok
  · subst hok
    rcases hq with hq | hq | hq
    · rw [respond_ok_start hq, startAcked]
      split
      · exact hpos
      · simp [State.movesLeft, State.framesLeft, hq]
    · rw [respond_ok_body hq, bodyAckedStep]
      split
      · rename_i hk
        obtain ⟨hrem, hn⟩ := h.chunk_keys hq hk
        have hrem' : s.kcRem.toNat ≠ 0 := fun hc => hrem (BitVec.eq_of_toNat_eq hc)
        have hkeys : s.kcN.toNat = min s.kcRem.toNat 18 := hn
        have hsub : (s.kcRem - s.kcN).toNat = s.kcRem.toNat - s.kcN.toNat :=
          BitVec.toNat_sub_of_le (by rw [BitVec.le_def]; omega)
        simp only [Op.keycolors] at hk
        simp only [State.movesLeft, State.framesLeft, hq, hk, advanceChunk_seq, advanceChunk_curOp, advanceChunk_kcRem,
          hsub, Op.keycolors, if_true]
        omega
      · rename_i hk
        have hpend := h.body_built hq hk
        simp only [Op.keycolors] at hk
        simp [State.movesLeft, State.framesLeft, hq, hk, hpend]
    · rw [respond_ok_end hq]
      exact hpos
  · rw [respond_fail s hok]
    exact hpos

theorem respond_inbox (r : Response) (s : State) : (respond r s).inbox = s.inbox := by
  unfold respond
  split
  · cases s.seq with
    | sendStart =>
      simp only [startAcked]
      split <;> rfl
    | sendBody =>
      simp only [bodyAckedStep]
      split <;> rfl
    | idle | build | sendEnd => rfl
  · rfl

theorem buildStep_records {s t : State} (h : buildStep s = .next t) :
    t.inbox = s.inbox ∧ t.reads = s.reads ∧ t.rst = s.rst := by
  rcases buildStep_next h with ⟨-, -, rfl⟩ | ⟨-, -, f, -, rfl⟩ | ⟨-, -, e, -, rfl⟩ | ⟨-, ⟨-, rfl⟩ | ⟨-, rfl⟩⟩ <;>
    exact ⟨rfl, rfl, rfl⟩

/-- The transport's duty is a free answer, taken with the duty from the inbox (R161, log 1). -/
theorem takeAnswer_owed {s u : State} (b : Bool) (h : Owed s u) :
    takeAnswer b s = (answerOfDraw b (Config.freeAnswer s.draws), { u with draws := s.draws + 1 }) := by
  rcases h with ⟨h, rfl⟩ | ⟨rest, h, rfl⟩
  · exact takeAnswer_free b h
  · exact takeAnswer_duty b h

/-- While a command runs the owed move is made, reads nothing, and brings the command nearer to its end (R161). -/
theorem owed_progress {s u : State} (h : s.Inv) (hq : s.seq ≠ .idle) (hu : Owed s u) :
    ∃ t, step s = .next t ∧ t.movesLeft < s.movesLeft ∧ t.inbox = u.inbox ∧ t.reads = s.reads ∧ t.rst = false := by
  have hr := h.rst_low hq
  obtain ⟨i, rfl⟩ := hu.eq_inbox
  rw [step_owed hu, if_neg (by simp [hr, hq])]
  split
  · rename_i hb
    have hi : State.Inv { s with inbox := i } := h.records i s.draws s.sent s.reads
    obtain ⟨t, ht⟩ := buildStep_goes_on hi hb
    obtain ⟨hin, hreads, hrst⟩ := buildStep_records ht
    exact ⟨t, ht, buildStep_movesLeft (s := { s with inbox := i }) hb ht, hin, hreads, hrst.trans hr⟩
  · rename_i hb
    have hsend : s.seq = .sendStart ∨ s.seq = .sendBody ∨ s.seq = .sendEnd := by
      cases hs : s.seq <;> simp_all
    have hport := portRequest_some.2 ⟨hr, hsend, rfl⟩
    have he := exchange_answered (i := i) hport (takeAnswer_owed _ hu) (permitted_answerOfDraw _ _)
    have hi := h.records i (s.draws + 1)
      (s.sent ++ [⟨s.seq, ⟨s.fb, s.seq == .sendBody, s.timeoutMs⟩,
        answerOfDraw (s.seq == .sendBody) (Config.freeAnswer s.draws)⟩]) s.reads
    refine ⟨_, he, respond_movesLeft _ hi hsend, respond_inbox _ _, ?_, ?_⟩
    · obtain ⟨-, -, -, -, -, -, -, hreads⟩ := respond_leaves _ _
      exact hreads
    · obtain ⟨-, -, -, -, hrst, -⟩ := respond_leaves _ _
      exact hrst.trans hr

/-! ## `wait_idle` -/

theorem run_succ {s t : State} (h : step s = .next t) (k : Nat) : core.run (k + 1) s = core.run k t := by
  have hcore : core.step s = .next t := h
  simp only [Host.Core.run, hcore]

/-- With `rst` released a STATUS read answers the STATUS word, whose bit 0 is BUSY (R17, R19). -/
theorem readWord_status {s : State} (hr : s.rst = false) :
    readWord 0x004 s = s.statusWord ∧ (readWord 0x004 s).getLsbD 0 = s.busy := by
  have hread : readWord 0x004 s = s.statusWord := by
    rw [readWord, if_neg (by simp [hr]), regAt_status (by decide), regValue]
  obtain ⟨hbusy, -⟩ := statusWordLayout s
  exact ⟨hread, hread ▸ hbusy⟩

/-- A turn of `wait_idle` with no move behind it: the STATUS word is recorded, and while BUSY = 1 an owed move and another
turn follow (R53, R75, log 18). -/
theorem waitIdle_turn {s : State} (h : s.Inv) (hr : s.rst = false) (hi : s.inbox = [.waitIdle]) :
    ∃ t, step s = .next t ∧ t.Inv ∧ t.inbox = (if s.busy then [.duty, .waitIdle] else []) ∧ t.seq = s.seq ∧
      t.busy = s.busy ∧ t.statusWord = s.statusWord ∧ t.movesLeft = s.movesLeft ∧
      t.reads = s.reads ++ [⟨0x004, s.statusWord⟩] := by
  obtain ⟨i, d, r, hp⟩ := pollIdle_records { s with inbox := [] }
  obtain ⟨-, -, hreads, hinbox⟩ := pollIdle_unchanged { s with inbox := [] }
  obtain ⟨hread, hbusy⟩ := readWord_status (s := { s with inbox := [] }) hr
  rw [hbusy] at hinbox
  rw [hread] at hreads
  rw [hp] at hreads hinbox
  exact ⟨_, (step_waitIdle hi).trans (congrArg Host.Outcome.next hp), h.records i d s.sent r, hinbox, rfl, rfl, rfl, rfl,
    hreads⟩

/-- `wait_idle` with nothing behind it ends: each turn that reads BUSY = 1 is followed by one owed move (R75, R161). -/
theorem waitIdle_ends (s : State) (h : s.Inv) (hr : s.rst = false) (hi : s.inbox = [.waitIdle]) :
    ∃ k t rs, k ≤ 2 * s.movesLeft + 1 ∧ core.run k s = .next t ∧ t.inbox = [] ∧ t.seq = .idle ∧ t.busy = false ∧
      t.reads = s.reads ++ rs ++ [⟨0x004, t.statusWord⟩] ∧ ∀ r ∈ rs, r.offset = 0x004 ∧ r.value.getLsbD 0 = true := by
  induction hm : s.movesLeft using Nat.strong_induction_on generalizing s with
  | _ m ih =>
    subst hm
    obtain ⟨p, hturn, hinv, hin, hseq, hpbusy, hstatus, hmoves, hreads⟩ := waitIdle_turn h hr hi
    cases hb : s.busy with
    | false =>
      rw [hb] at hpbusy hin
      have hq : p.seq = .idle := by
        by_contra hc
        simp [hinv.busy_iff.2 hc] at hpbusy
      exact ⟨1, p, [], by omega, run_succ hturn 0, hin, hq, hpbusy, by rw [hreads, hstatus, List.append_nil], by simp⟩
    | true =>
      rw [hb] at hpbusy hin
      obtain ⟨t, hstep, hless, htin, htreads, hrst⟩ :=
        owed_progress hinv (hinv.busy_iff.1 hpbusy) (.inr ⟨[.waitIdle], hin, rfl⟩)
      rw [hmoves] at hless
      obtain ⟨k, e, rs, hk, hrun, hinbox, hidle, hfree, hall, hrs⟩ :=
        ih t.movesLeft hless t (stepKeepsTheInvariant p t hinv hstep) hrst htin rfl
      refine ⟨k + 2, e, ⟨0x004, s.statusWord⟩ :: rs, by omega, ?_, hinbox, hidle, hfree, ?_, ?_⟩
      · exact (run_succ hturn (k + 1)).trans ((run_succ hstep k).trans hrun)
      · rw [hall, htreads, hreads]
        simp
      · obtain ⟨hbusy, -⟩ := statusWordLayout s
        exact List.forall_mem_cons.2 ⟨⟨rfl, hbusy.trans hb⟩, hrs⟩

/-- Settles O60: the lines expand to their accesses by computation, `wait_idle` is `pollIdle` once a turn, and a command
has few enough moves left. -/
theorem assemblyExpandsAsListed : Obligations.AssemblyExpandsAsListed := by
  refine ⟨by decide, by decide, by decide, by decide, by decide, by decide, fun s rest hi => ?_, fun s h hr hi => ?_⟩
  · obtain ⟨hregs, hsent, hreads, hinbox⟩ := pollIdle_unchanged { s with inbox := rest }
    exact ⟨_, step_waitIdle hi, hregs, hsent, hreads, hinbox⟩
  · obtain ⟨k, t, rs, hk, hrest⟩ := waitIdle_ends s h hr hi
    have hmoves := movesLeft_le h
    exact ⟨k, t, rs, by omega, hrest⟩

end Sys2Proof.Machine

namespace Sys2Proof.Machine

/-! ## One-frame commands -/

/-- Past its check a one-frame command is accepted with BODY_PEND set and enters its first frame (R114, R116). -/
theorem accept_startOneFrame {s : State} {c : State → Option CmdError} (op : Byte) (w : Bool) (hr : s.rst = false)
    (hb : s.busy = false) (hc : c s = none) :
    accept (requestWord op w) c (startOneFrame w) s = enteredBody w { acceptedAt op w s with bodyPend := true } := by
  rw [accept_ok _ _ hr hb hc, latch_store, startOneFrame, enterBody_eq]

/-- A SUBCOMMAND past the sequence check whose argument fits passes its check (R84, R115). -/
theorem checkSubcommand_none {s : State} {w : Bool} (hseq : checkBody w s = none) (hlen : 8 + s.plen.toNat ≤ 64) :
    checkSubcommand w s = none := by
  rw [checkSubcommand, hseq]
  exact if_neg (not_lt.2 hlen)

/-- A RAW_FRAME past the sequence check whose payload fits passes its check (R92, R115). -/
theorem checkRawFrame_none {s : State} {w : Bool} (hseq : checkBody w s = none)
    (hlen : s.poff.toNat + s.plen.toNat ≤ 64) : checkRawFrame w s = none := by
  rw [checkRawFrame, hseq]
  exact if_neg (not_lt.2 hlen)

/-- Settles O9: the sequence check, with the length check of SUBCOMMAND and RAW_FRAME, passes, and the start is that of
every one-frame command. -/
theorem oneFrameCommandsStart : Obligations.OneFrameCommandsStart := by
  intro s w hr hb ht
  have hseq : checkBody w s = none := checkBody_none.2 ht
  have named : ∀ op : Byte, Host.Outcome.next (φ := Fault) (ρ := Refusal)
      (accept (requestWord op w) (checkBody w) (startOneFrame w) s) =
        .next (enteredBody w { acceptedAt op w s with bodyPend := true }) := fun op =>
    congrArg Host.Outcome.next (accept_startOneFrame op w hr hb hseq)
  refine ⟨named _, named _, named _, named _, named _, named _, named _, fun hlen => ?_, fun hlen => ?_⟩
  · exact congrArg Host.Outcome.next (accept_startOneFrame _ w hr hb (checkSubcommand_none hseq hlen))
  · exact congrArg Host.Outcome.next (accept_startOneFrame _ w hr hb (checkRawFrame_none hseq hlen))

/-- BUILD of a named setting presents the frame of its descriptor and the first n bytes of PB (R82, R118). -/
theorem buildStep_named {s : State} {op : Byte} (d : Descriptor) (n : Nat) (hpend : s.bodyPend = true)
    (hop : s.curOp = op) (hk : op ≠ Op.keycolors) (hf : bodyFrame s = some (bodyNamed d n s)) (hn : n ≤ 56) :
    buildStep s =
      .next (presentingBody (frameOfBytes (0 :: 0 :: 0 :: 6 :: d.d0 :: d.d1 :: d.d2 :: d.d3 :: s.pbBytes n))
        { s with bodyPend := false }) :=
  buildStep_body hpend (hop ▸ hk) (hf.trans (congrArg some (bodyNamed_eq s d n hn)))

/-- Settles O16: each setting's body frame is `bodyNamed` of its descriptor, with one argument byte, for SET_COLOR
three. -/
theorem buildSendsTheNamedSetting : Obligations.BuildSendsTheNamedSetting := by
  intro s hpend sends
  have one : ∀ (op : Byte) (d : Descriptor), s.curOp = op → op ≠ Op.keycolors → bodyFrame s = some (bodyNamed d 1 s) →
      buildStep s = sends (frameOfBytes [0, 0, 0, 6, d.d0, d.d1, d.d2, d.d3, s.pb[0]]) := fun op d hop hk hf => by
    rw [buildStep_named d 1 hpend hop hk hf (by decide), pbBytes_one]
  refine ⟨fun hop => ?_, fun hop => ?_, fun hop => ?_, fun hop => ?_, fun hop => ?_, fun hop => ?_, fun hop => ?_⟩
  · exact one _ descMode hop (by decide) (bodyFrame_setMode hop)
  · exact one _ descBrightness hop (by decide) (bodyFrame_setBrightness hop)
  · exact one _ descDelay hop (by decide) (bodyFrame_setDelay hop)
  · exact one _ descDirection hop (by decide) (bodyFrame_setDirection hop)
  · exact one _ descColorful hop (by decide) (bodyFrame_setColorful hop)
  · rw [buildStep_named descColor 3 hpend hop (by decide) (bodyFrame_setColor hop) (by decide), pbBytes_three]
    rfl
  · exact one _ descRate hop (by decide) (bodyFrame_setRate hop)

/-! ## Body frames acknowledged -/

/-- The presented exchange answered OK, as scheduled, is recorded and reacted to (R123). -/
theorem exec_frame_ok {s : State} {i : Instr} {f : Frame} {rest : List Event} (hi : i.asFrame = some f) (hf : s.fb = f)
    (hr : s.rst = false) (hq : s.seq = .sendStart ∨ s.seq = .sendBody ∨ s.seq = .sendEnd)
    (hin : s.inbox = .respond .ok :: rest) : exec i s = .next (respond .ok (answeredBy .ok rest s)) := by
  subst hf
  rw [exec_frame hi, exchange_scheduled hr hq hin (by simp [permitted])]

/-- Settles O24: whichever row writes the bytes in FB, the instruction is their exchange, and the reaction in SEND_BODY
is `bodyAckedStep`, whose branches the statement writes out. -/
theorem bodyFramesAcknowledged : Obligations.BodyFramesAcknowledged := by
  intro s rest hr hq hin acked
  have ack : ∀ (i : Instr) {f : Frame}, i.asFrame = some f → s.fb = f → exec i s = acked := fun i f hi hf => by
    rw [exec_frame_ok hi hf hr (.inr (.inl hq)) hin, respond_ok_body (s := answeredBy .ok rest s) hq]
    rfl
  refine ⟨fun ck d arg => ack _ rfl, fun ck a => ack _ rfl, fun ck a => ack _ rfl, fun ck a => ack _ rfl,
    fun ck a => ack _ rfl, fun ck a => ack _ rfl, fun ck r g b => ack _ rfl, fun ck a => ack _ rfl,
    fun ck n o d => ack _ rfl, ?_, ?_⟩
  · rw [frameOfBytes_start]
    exact ack .frameStart rfl
  · rw [frameOfBytes_end]
    exact ack .frameEnd rfl

end Sys2Proof.Machine

namespace Sys2Proof.Machine

/-! ## The checksum unit -/

/-- The bound of R98: 61 bytes, each at most 255. -/
theorem byteSum_le (f : Frame) : byteSum f ≤ 15555 := by
  have hbyte : ∀ n ∈ (f.toList.drop 3).map BitVec.toNat, n ≤ 255 := by
    intro n hn
    obtain ⟨b, -, rfl⟩ := List.mem_map.1 hn
    exact Nat.le_of_lt_succ b.isLt
  simpa [byteSum] using List.sum_le_card_nsmul _ 255 hbyte

/-- Frames that agree from byte 3 on have the same checksum (R94). -/
theorem checksum_congr {f g : Frame} (h : ∀ i (_ : 3 ≤ i) (hi : i < 64), f[i] = g[i]) : checksum f = checksum g := by
  rw [checksum, checksum, accumulate_eq, accumulate_eq, byteSum_congr f g h]

/-- Writing a byte before the command keeps the checksum (R94, R100). -/
theorem checksum_set {f : Frame} {k : Nat} (hk : k < 3) (b : Byte) : checksum (f.set k b) = checksum f :=
  checksum_congr fun i h3 hi => Vector.getElem_set_ne (by omega) hi (by omega)

/-- A sealed frame stores its checksum in bytes 1 and 2 (R99). -/
theorem checksum_of_sealed {f : Frame} (h : Sealed f) : checksum f = (f[1], f[2]) := by
  have hacc : accumulate f = frameChecksumField f := (accumulate_eq f).trans (checksumField_of_sealed h).symm
  rw [checksum, hacc, frameChecksumField, loByte_halfOfBytes, hiByte_halfOfBytes]

/-- Settles O33: the accumulator holds the byte sum, which is too small to wrap. -/
theorem checksumIsTheByteSum : Obligations.ChecksumIsTheByteSum := by
  refine ⟨fun f => ?_, fun f g h => checksum_congr fun i h3 hi => h i hi h3⟩
  have hle := byteSum_le f
  have hlow : (checksum f).1.toNat = byteSum f % 65536 % 256 := by rw [checksum, loByte_toNat, accumulate_toNat]
  have hhigh : (checksum f).2.toNat = byteSum f % 65536 / 256 := by rw [checksum, hiByte_toNat, accumulate_toNat]
  exact ⟨hlow, hhigh, hle, by omega⟩

/-- Settles O34: a sealed frame is its own seal, and bytes 1 and 2 are outside the sum. -/
theorem sealIsSelfConsistent : Obligations.SealIsSelfConsistent := by
  refine ⟨fun f h => ?_, fun f => ⟨sealed_sealFrame f, sealFrame_get f⟩⟩
  have hstored := checksum_of_sealed h
  have hzeroed : checksum ((f.set 1 0).set 2 0) = checksum f :=
    (checksum_set (by decide) 0).trans (checksum_set (by decide) 0)
  exact ⟨hzeroed.trans hstored, hstored, (sealed_iff f).1 h⟩

/-- Settles O35: byte 0 is outside the sum, and the sealed START and END frames are those of R65 and R66. -/
theorem tagIsNotChecksummed : Obligations.TagIsNotChecksummed := by
  have hstart : sealFrame (ctrlFrame 0x01) = frameOfBytes [0x00, 0x01, 0x00, 0x01] := sealFrame_start
  have hend : sealFrame (ctrlFrame 0x02) = frameOfBytes [0x00, 0x02, 0x00, 0x02] := sealFrame_end
  refine ⟨fun f b => checksum_set (by decide) b, ?_, ?_, ?_⟩
  · rw [hstart, hend, frameOfBytes_get, frameOfBytes_get]
    decide
  · rw [hstart, hend, frameOfBytes_get, frameOfBytes_get]
    decide
  · rw [checksum, accumulate_eq]
    decide

end Sys2Proof.Machine

namespace Sys2Proof.Machine

/-! ## The chunk plan -/

/-- Settles O36: by the branches of `clampedCount`. -/
theorem clampedCountIsTheMinimum : Obligations.ClampedCountIsTheMinimum := by
  intro start count
  unfold clampedCount Config.maxKey
  split_ifs <;> exact ⟨by omega, by omega, by omega⟩

@[simp] theorem chunkPlan_no_keys (fuel start : Nat) : chunkPlan fuel start 0 = [] := by
  cases fuel <;> simp [chunkPlan]

/-- A plan of some keys is its first frame and the plan of the keys that are left (R106 to R108). -/
theorem chunkPlan_keys (fuel start : Nat) {k : Nat} (hk : k ≠ 0) :
    chunkPlan (fuel + 1) start k = (start, min k 18) :: chunkPlan fuel (start + min k 18) (k - min k 18) := by
  rw [chunkPlan, if_neg hk]

/-- A plan has a frame for every 18 keys begun (R108). -/
theorem chunkPlan_length {fuel k : Nat} (start : Nat) (hk : k ≤ 18 * fuel) :
    (chunkPlan fuel start k).length = (k + 17) / 18 := by
  induction fuel generalizing start k with
  | zero =>
    obtain rfl : k = 0 := by omega
    simp
  | succ fuel ih =>
    by_cases h0 : k = 0
    · simp [h0]
    · rw [chunkPlan_keys fuel start h0, List.length_cons, ih _ (by omega)]
      omega

/-- The frames of a plan cover its keys in order, each key once (R111). -/
theorem planKeys_chunkPlan {fuel k : Nat} (start : Nat) (hk : k ≤ 18 * fuel) :
    planKeys (chunkPlan fuel start k) = List.range' start k := by
  induction fuel generalizing start k with
  | zero =>
    obtain rfl : k = 0 := by omega
    simp [planKeys]
  | succ fuel ih =>
    by_cases h0 : k = 0
    · simp [h0, planKeys]
    · have hrest := ih (start + min k 18) (k := k - min k 18) (by omega)
      rw [planKeys] at hrest
      rw [chunkPlan_keys fuel start h0, planKeys, List.flatMap_cons, hrest, List.range'_append_1,
        Nat.add_sub_cancel' (Nat.min_le_left k 18)]

/-- Each frame of a plan holds 1 to 18 keys (R108). -/
theorem chunkPlan_count {fuel start k : Nat} {q : Nat × Nat} (hq : q ∈ chunkPlan fuel start k) : 1 ≤ q.2 ∧ q.2 ≤ 18 := by
  induction fuel generalizing start k with
  | zero => simp [chunkPlan] at hq
  | succ fuel ih =>
    by_cases h0 : k = 0
    · simp [h0] at hq
    · rw [chunkPlan_keys fuel start h0] at hq
      rcases List.mem_cons.1 hq with rfl | hq
      · exact ⟨by simp only; omega, Nat.min_le_right _ _⟩
      · exact ih hq

/-- Every frame of a plan but the last holds 18 keys: a frame that another follows left keys over (R108). -/
theorem chunkPlan_count_of_not_last {fuel start k : Nat} {q : Nat × Nat}
    (hq : q ∈ (chunkPlan fuel start k).dropLast) : q.2 = 18 := by
  induction fuel generalizing start k with
  | zero => simp [chunkPlan] at hq
  | succ fuel ih =>
    by_cases h0 : k = 0
    · simp [h0] at hq
    · rw [chunkPlan_keys fuel start h0] at hq
      by_cases hlast : k - min k 18 = 0
      · simp [hlast] at hq
      · have hne : chunkPlan fuel (start + min k 18) (k - min k 18) ≠ [] := fun hc => by simp [hc] at hq
        rw [List.dropLast_cons_of_ne_nil hne] at hq
        rcases List.mem_cons.1 hq with rfl | hq
        · simp only
          omega
        · exact ih hq

/-- Settles O37: seven frames of 18 keys are enough for 126. -/
theorem chunkPlanIsExhaustive : Obligations.ChunkPlanIsExhaustive := by
  intro start k hk
  exact ⟨chunkPlan_length start (by omega), planKeys_chunkPlan start (by omega), fun q hq => chunkPlan_count hq,
    fun q hq => chunkPlan_count_of_not_last hq⟩

/-! ## BUILD of KEYCOLORS -/

theorem cbWritten_iff {s : State} {i : Nat} : s.cbWritten i = true ↔ ∃ e, s.cb[i]? = some e ∧ e.written = true := by
  unfold State.cbWritten
  cases s.cb[i]? <;> simp

/-- The colours of a chunk whose entries are written are those the requester wrote (R43, R106). -/
theorem chunkColours_eq_writtenColours {s : State}
    (h : ∀ j, j < s.chunkKeys → s.cbWritten (s.kcPos.toNat + j) = true) :
    s.chunkColours = writtenColours s s.kcPos.toNat s.chunkKeys := by
  refine List.map_congr_left fun j hj => ?_
  obtain ⟨e, he, hw⟩ := cbWritten_iff.1 (h j (List.mem_range.1 hj))
  rw [cbColour_written _ he hw, cbColour_written _ he hw]

/-- A chunk whose entries are written records no fault (R43). -/
theorem chunkFaults_eq_nil {s : State} (h : ∀ j, j < s.chunkKeys → s.cbWritten (s.kcPos.toNat + j) = true) :
    s.chunkFaults = [] := by
  rw [State.chunkFaults, List.map_eq_nil_iff, List.filter_eq_nil_iff]
  exact fun j hj => by simp [h j (List.mem_range.1 hj)]

/-- Building a chunk whose entries are written, field by field (R106, R118). -/
theorem buildChunk_written {s : State} (h : ∀ j, j < s.chunkKeys → s.cbWritten (s.kcPos.toNat + j) = true) :
    buildChunk s =
      presentingBody
        (keyColorFrame (s.kcBase.toNat + s.kcPos.toNat) s.chunkKeys (writtenColours s s.kcPos.toNat s.chunkKeys))
        { s with kcN := BitVec.ofNat 8 s.chunkKeys, draws := s.draws + s.chunkKeys } := by
  rw [buildChunk, State.chunkFrame, chunkColours_eq_writtenColours h, chunkFaults_eq_nil h, List.append_nil,
    presentBody_eq]

/-- Settles O18: the BUILD step is `buildChunk`, whose entries are all written. -/
theorem buildSendsTheNextChunk : Obligations.BuildSendsTheNextChunk := by
  intro s hop hrem hw n
  exact (buildStep_chunk hop hrem).trans (congrArg _ (buildChunk_written fun j hj => cbWritten_iff.2 (hw j hj)))

/-- Settles O20: neither of BUILD's first two branches applies. -/
theorem buildEndsTheCommand : Obligations.BuildEndsTheCommand := by
  intro s h
  rw [buildStep_last h, presentEnd_eq, complete]

end Sys2Proof.Machine

namespace Sys2Proof.Machine

/-! ## Every command ends -/

theorem movesLeft_odd {s : State} (h : s.seq = .sendStart ∨ s.seq = .sendBody ∨ s.seq = .sendEnd) :
    s.movesLeft % 2 = 1 := by
  rcases h with h | h | h <;> simp only [State.movesLeft, h] <;> omega

/-- Every second of the moves left is an exchange: what an owed move adds to the frames handed over it takes from them
(R118, R162). -/
theorem sent_of_owed {s t : State} (h : step s = .next t) (hless : t.movesLeft < s.movesLeft) :
    s.sent <+: t.sent ∧ t.sent.length + (t.movesLeft + 1) / 2 ≤ s.sent.length + (s.movesLeft + 1) / 2 := by
  rcases step_exchange_or_quiet h with he | ⟨hsent, -⟩
  · obtain ⟨r, hq, -, hsent, -⟩ := exchange_records he
    have hodd := movesLeft_odd hq
    rw [hsent]
    refine ⟨List.prefix_append _ _, ?_⟩
    rw [List.length_append, List.length_singleton]
    omega
  · rw [hsent]
    exact ⟨List.prefix_rfl, by omega⟩

/-- A BUILD step that ends the command sets DONE (R121, R134). -/
theorem buildStep_done {s t : State} (h : buildStep s = .next t) (hq : t.seq = .idle) : t.done = true := by
  rcases buildStep_next h with ⟨-, -, rfl⟩ | ⟨-, -, f, -, rfl⟩ | ⟨-, -, e, -, rfl⟩ | ⟨-, ⟨-, rfl⟩ | ⟨-, rfl⟩⟩
  · simp at hq
  · simp at hq
  · rfl
  · simp at hq
  · rfl

/-- A response that ends the command sets DONE (R117, R120, R122). -/
theorem respond_done (r : Response) {s : State} (hs : s.seq = .sendStart ∨ s.seq = .sendBody ∨ s.seq = .sendEnd)
    (hq : (respond r s).seq = .idle) : (respond r s).done = true := by
  by_cases hok : r = .ok
  · subst hok
    rcases hs with hs | hs | hs
    · rw [respond_ok_start hs, startAcked] at hq ⊢
      split at hq
      · rename_i hop
        rw [if_pos hop]
        rfl
      · cases hq
    · rw [respond_ok_body hs, bodyAckedStep] at hq
      split at hq <;> cases hq
    · rw [respond_ok_end hs]
      rfl
  · rw [respond_fail s hok]
    rfl

/-- After an owed move of a running command it still runs, or DONE is set (R21, R161). -/
theorem busy_or_done_of_owed {s u t : State} (h : s.Inv) (hq : s.seq ≠ .idle) (hu : Owed s u) (hs : step s = .next t) :
    t.busy = true ∨ t.done = true := by
  by_cases ht : t.seq = .idle
  · refine .inr ?_
    rcases step_owed_next hu hs with ⟨-, hrst | hidle⟩ | ⟨-, -, hb⟩ | ⟨-, he⟩
    · exact absurd (h.rst_low hq) (by simp [hrst])
    · exact absurd hidle hq
    · exact buildStep_done hb ht
    · obtain ⟨q, i, d, r, hport, -, -, -, rfl⟩ := exchange_next he
      obtain ⟨-, hsend, -⟩ := portRequest_some.1 hport
      exact respond_done r hsend ht
  · exact .inl ((stepKeepsTheInvariant s t h hs).busy_iff.2 ht)

/-- With nothing scheduled the block is in IDLE after at most the moves left, every second of which sends a frame, and a
command that ran has set DONE (R161, R162). -/
theorem command_ends (s : State) (h : s.Inv) (hi : s.inbox = []) :
    ∃ k t, k ≤ s.movesLeft ∧ core.run k s = .next t ∧ t.seq = .idle ∧ t.busy = false ∧
      (s.busy = true ∨ s.done = true → t.done = true) ∧ s.sent <+: t.sent ∧
      t.sent.length ≤ s.sent.length + (s.movesLeft + 1) / 2 := by
  induction hm : s.movesLeft using Nat.strong_induction_on generalizing s with
  | _ m ih =>
    subst hm
    by_cases hq : s.seq = .idle
    · have hb : s.busy = false := by
        by_contra hc
        exact h.busy_iff.1 (by simpa using hc) hq
      exact ⟨0, s, Nat.zero_le _, rfl, hq, hb, by simp [hb], List.prefix_rfl, Nat.le_add_right _ _⟩
    · have hu : Owed s s := .inl ⟨hi, rfl⟩
      obtain ⟨t, hstep, hless, hin, -⟩ := owed_progress h hq hu
      obtain ⟨hpre, hlen⟩ := sent_of_owed hstep hless
      obtain ⟨k, e, hk, hrun, hidle, hfree, hdone, hpre', hlen'⟩ :=
        ih t.movesLeft hless t (stepKeepsTheInvariant s t h hstep) (hin.trans hi) rfl
      exact ⟨k + 1, e, by omega, (run_succ hstep k).trans hrun, hidle, hfree,
        fun _ => hdone (busy_or_done_of_owed h hq hu hstep), hpre.trans hpre', by omega⟩

/-- Settles O58: at most 17 moves are left in a state of a run. -/
theorem everyCommandEnds : Obligations.EveryCommandEnds := by
  intro s h _ hi
  have hmoves := movesLeft_le h
  obtain ⟨k, t, hk, hrun, hidle, hfree, hdone, hpre, hlen⟩ := command_ends s h hi
  exact ⟨k, t, by omega, hrun, hidle, hfree, fun hb => hdone (.inl hb), hpre, by omega⟩

end Sys2Proof.Machine

namespace Sys2Proof.Machine

/-! ## A KEYCOLORS run -/

theorem step_build {s : State} {rest : List Event} (hr : s.rst = false) (hq : s.seq = .build)
    (hi : s.inbox = .build :: rest) : step s = buildStep { s with inbox := rest } := by
  rw [step, nextMove, hi]
  simp only [hq, hr, and_self, if_true]

/-- The exchange of a key-color frame answered OK, as scheduled (R107, R119, R123). -/
theorem step_chunkAcked {s : State} {rest : List Event} (hr : s.rst = false) (hq : s.seq = .sendBody)
    (hk : s.curOp = Op.keycolors) (hi : s.inbox = .respond .ok :: rest) :
    step s = .next (advanceChunk { answeredBy .ok rest s with bodyAcked := s.bodyAcked + 1, seq := .build }) := by
  have hport : s.portRequest.isSome = true := by
    rw [portRequest_some.2 ⟨hr, .inr (.inl hq), rfl⟩]
    rfl
  rw [step_presented hport (.inr (.inr ⟨.ok, rest, hi⟩)),
    exchange_scheduled hr (.inr (.inl hq)) hi (by simp [permitted]), respond_ok_body (s := answeredBy .ok rest s) hq]
  exact congrArg Host.Outcome.next (if_pos hk)

/-- The state of a KEYCOLORS command once its next chunk has been built and its exchange answered OK, field by field
(R106, R107, R119). -/
def State.afterChunk (s : State) (rest : List Event) : State :=
  { s with
    fb := sealFrame s.chunkFrame, acc := accumulate s.chunkFrame, lastCksum := accumulate s.chunkFrame, seq := .build
    bodyAcked := s.bodyAcked + 1, kcN := BitVec.ofNat 8 s.chunkKeys, kcPos := s.kcPos + BitVec.ofNat 8 s.chunkKeys
    kcRem := s.kcRem - BitVec.ofNat 8 s.chunkKeys, faultMarks := s.faultMarks ++ s.chunkFaults
    draws := s.draws + s.chunkKeys, inbox := rest
    sent := s.sent ++ [⟨.sendBody, ⟨sealFrame s.chunkFrame, true, s.timeoutMs⟩, .ok⟩] }

@[simp] theorem afterChunk_cb (s : State) (rest : List Event) : (s.afterChunk rest).cb = s.cb := rfl
@[simp] theorem afterChunk_kcRange (s : State) (rest : List Event) : (s.afterChunk rest).kcRange = s.kcRange := rfl
@[simp] theorem afterChunk_timeoutMs (s : State) (rest : List Event) : (s.afterChunk rest).timeoutMs = s.timeoutMs := rfl
@[simp] theorem afterChunk_kcStart (s : State) (rest : List Event) : (s.afterChunk rest).kcStart = s.kcStart := by
  simp only [State.kcStart, afterChunk_kcRange]
@[simp] theorem afterChunk_clamped (s : State) (rest : List Event) : (s.afterChunk rest).clamped = s.clamped := by
  simp only [State.clamped, State.kcCount, afterChunk_kcStart, afterChunk_kcRange]
@[simp] theorem afterChunk_cbWritten (s : State) (rest : List Event) (i : Nat) :
    (s.afterChunk rest).cbWritten i = s.cbWritten i := by
  simp only [State.cbWritten, afterChunk_cb]

/-- A chunk leaves the exchanges of a plan as they were: they depend on the colour buffer and the timeout alone. -/
@[simp] theorem planExchanges_afterChunk (s : State) (rest : List Event) (start : Nat) (p : List (Nat × Nat)) :
    planExchanges (s.afterChunk rest) start p = planExchanges s start p := by
  simp only [planExchanges, writtenColours, State.cbColour, afterChunk_cb, afterChunk_timeoutMs]

theorem planExchanges_cons (s : State) (start : Nat) (q : Nat × Nat) (p : List (Nat × Nat)) :
    planExchanges s start (q :: p) = planExchanges s start [q] ++ planExchanges s start p := rfl

/-- One turn of the script builds the next chunk and acknowledges it. -/
theorem steps_to_afterChunk {s : State} {rest : List Event} (hr : s.rst = false) (hq : s.seq = .build)
    (hk : s.curOp = Op.keycolors) (hrem : s.kcRem ≠ 0) (hi : s.inbox = .build :: .respond .ok :: rest) :
    ∃ u, step s = .next u ∧ step u = .next (s.afterChunk rest) := by
  refine ⟨buildChunk { s with inbox := .respond .ok :: rest },
    (step_build hr hq hi).trans (buildStep_chunk (s := { s with inbox := .respond .ok :: rest }) hk hrem), ?_⟩
  rw [step_chunkAcked (s := buildChunk { s with inbox := .respond .ok :: rest }) hr rfl hk rfl]
  simp only [advanceChunk, answeredBy, buildChunk, presentBody, loadFrame, State.afterChunk]
  rfl

/-- The plan of the keys still to send (R107, R108). -/
def State.planLeft (s : State) (fuel : Nat) : List (Nat × Nat) :=
  chunkPlan fuel (s.kcStart.toNat + s.kcPos.toNat) s.kcRem.toNat

theorem planLeft_no_keys {s : State} (fuel : Nat) (h : s.kcRem = 0) : s.planLeft fuel = [] := by
  simp [State.planLeft, h]

section
variable {s : State} (h : s.Inv) (hq : s.seq = .build) (hk : s.curOp = Op.keycolors) (hrem : s.kcRem ≠ 0)
include h hq hk hrem

/-- The registers that count keys and frames after a chunk (R107, R119). -/
theorem afterChunk_counts (rest : List Event) :
    (s.afterChunk rest).kcPos.toNat = s.kcPos.toNat + s.chunkKeys ∧
      (s.afterChunk rest).kcRem.toNat = s.kcRem.toNat - s.chunkKeys ∧
      (s.afterChunk rest).bodyAcked.toNat = s.bodyAcked.toNat + 1 := by
  have hn := chunkKeys_toNat s
  have hkeys : s.chunkKeys = min s.kcRem.toNat 18 := rfl
  have htot := h.chunk_total
  have hacked := h.chunk_acked (h.busy_iff.2 (by simp [hq])) hk hrem
  obtain ⟨hsum, hack, -, -⟩ := advance_counts (hn.trans hkeys) htot hrem hacked
  have hpos : (s.kcPos + BitVec.ofNat 8 s.chunkKeys).toNat = s.kcPos.toNat + (BitVec.ofNat 8 s.chunkKeys).toNat :=
    BitVec.toNat_add_of_lt (by omega)
  refine ⟨hpos.trans (congrArg _ hn), ?_, hack⟩
  show (s.kcRem - BitVec.ofNat 8 s.chunkKeys).toNat = _
  omega

/-- The next chunk is the first frame of the plan that is left, and the rest of the plan is left after it (R106, R108). -/
theorem planLeft_keys (fuel : Nat) :
    ∃ p, s.planLeft (fuel + 1) = (s.kcStart.toNat + s.kcPos.toNat, s.chunkKeys) :: p ∧
      ∀ rest, (s.afterChunk rest).planLeft fuel = p := by
  refine ⟨_, chunkPlan_keys _ _ fun hc => hrem (BitVec.eq_of_toNat_eq hc), fun rest => ?_⟩
  obtain ⟨hpos, hleft, -⟩ := afterChunk_counts h hq hk hrem rest
  rw [State.planLeft, hpos, hleft, ← Nat.add_assoc, afterChunk_kcStart]
  rfl

/-- A chunk whose entries are written sends the first frame of the plan, with its colours, and records no fault (R106,
R111). -/
theorem afterChunk_sent (rest : List Event) (hw : ∀ j, j < s.clamped → s.cbWritten j = true) :
    (s.afterChunk rest).sent =
        s.sent ++ planExchanges s s.kcStart.toNat [(s.kcStart.toNat + s.kcPos.toNat, s.chunkKeys)] ∧
      (s.afterChunk rest).faultMarks = s.faultMarks := by
  obtain ⟨hclamp, hbase⟩ := h.chunk_clamped (h.busy_iff.2 (by simp [hq])) hk
  obtain ⟨hn, -, -⟩ := chunk_in_range h (h.busy_iff.2 (by simp [hq])) hk hrem
  have hkeys : s.chunkKeys ≤ s.kcRem.toNat := Nat.min_le_left _ _
  have hwritten : ∀ j, j < s.chunkKeys → s.cbWritten (s.kcPos.toNat + j) = true := fun j hj => hw _ (by omega)
  have hframe : s.chunkFrame = keyColorFrame (s.kcStart.toNat + s.kcPos.toNat) s.chunkKeys
      (writtenColours s s.kcPos.toNat s.chunkKeys) := by
    rw [State.chunkFrame, hbase (by omega), chunkColours_eq_writtenColours hwritten]
  refine ⟨?_, ?_⟩
  · rw [State.afterChunk, hframe]
    simp only [planExchanges, List.map_cons, List.map_nil, Nat.add_sub_cancel_left]
  · rw [State.afterChunk, chunkFaults_eq_nil hwritten, List.append_nil]

end

/-- From BUILD a KEYCOLORS command answered OK throughout sends the frames of the plan that is left (R105 to R109). -/
theorem keycolors_sends_planLeft (fuel : Nat) (s : State) (rest : List Event) (h : s.Inv) (hq : s.seq = .build)
    (hk : s.curOp = Op.keycolors) (hw : ∀ j, j < s.clamped → s.cbWritten j = true) (hfuel : s.kcRem.toNat ≤ 18 * fuel)
    (hi : s.inbox = chunkScript (s.planLeft fuel).length ++ rest) :
    ∃ t, core.run (2 * (s.planLeft fuel).length) s = .next t ∧ t.Inv ∧
      t.sent = s.sent ++ planExchanges s s.kcStart.toNat (s.planLeft fuel) ∧ t.kcRem = 0 ∧ t.seq = .build ∧
      t.bodyAcked.toNat = s.bodyAcked.toNat + (s.planLeft fuel).length ∧ t.faultMarks = s.faultMarks ∧
      t.inbox = rest := by
  induction fuel generalizing s with
  | zero =>
    exact ⟨s, rfl, h, (List.append_nil _).symm, BitVec.eq_of_toNat_eq (Nat.le_zero.1 hfuel), hq, rfl, rfl, hi⟩
  | succ fuel ih =>
    by_cases hrem : s.kcRem = 0
    · rw [planLeft_no_keys _ hrem] at hi ⊢
      exact ⟨s, rfl, h, (List.append_nil _).symm, hrem, hq, rfl, rfl, hi⟩
    · obtain ⟨p, hplan, hrest⟩ := planLeft_keys h hq hk hrem fuel
      rw [hplan] at hi ⊢
      obtain ⟨u, hbuild, hanswer⟩ := steps_to_afterChunk (rest := chunkScript p.length ++ rest)
        (h.rst_low (by simp [hq])) hq hk hrem hi
      have hinv := stepKeepsTheInvariant _ _ (stepKeepsTheInvariant _ _ h hbuild) hanswer
      obtain ⟨-, hrem', hacked'⟩ := afterChunk_counts h hq hk hrem (chunkScript p.length ++ rest)
      obtain ⟨hsent', hmarks'⟩ := afterChunk_sent h hq hk hrem (chunkScript p.length ++ rest) hw
      have hkeys : s.chunkKeys = min s.kcRem.toNat 18 := rfl
      have hih := ih (s.afterChunk (chunkScript p.length ++ rest)) hinv rfl hk (by simpa using hw) (by omega)
        (by rw [hrest]; rfl)
      rw [hrest] at hih
      obtain ⟨t, hrun, htinv, hsent, hnone, hend, hacked, hmarks, hin⟩ := hih
      refine ⟨t, (run_succ hbuild _).trans ((run_succ hanswer _).trans hrun), htinv, ?_, hnone, hend, ?_,
        hmarks.trans hmarks', hin⟩
      · rw [hsent, hsent', List.append_assoc, planExchanges_afterChunk, afterChunk_kcStart, ← planExchanges_cons]
      · rw [hacked, hacked', List.length_cons]
        omega

/-- Settles O38: at the first BUILD the plan that is left is the whole plan, and it ends in a state of the invariant. -/
theorem keycolorsSendsItsWholePlan : Obligations.KeycolorsSendsItsWholePlan := by
  intro s rest h hq hk hpos hacked hw plan hi
  obtain ⟨hclamp, -⟩ := h.chunk_clamped (h.busy_iff.2 (by simp [hq])) hk
  have hrem : s.kcRem.toNat = s.clamped := by simpa [hpos] using hclamp
  have hplan : s.planLeft 7 = plan := by rw [State.planLeft, hpos, hrem]; rfl
  have hrun := keycolors_sends_planLeft 7 s rest h hq hk hw (by have := clamped_le s; omega)
  rw [hplan] at hrun
  obtain ⟨t, hrun, htinv, hsent, hnone, hend, hcount, hmarks, hin⟩ := hrun hi
  exact ⟨t, hrun, hsent, hnone, hend, by simpa [hacked] using hcount, hmarks, hin, htinv.body_open (.inl hend)⟩

end Sys2Proof.Machine

namespace Sys2Proof.Machine

/-! ## The transaction shape -/

/-- One exchange more extends the shape by its own step (R129). -/
theorem shape_append (es : List Exchange) (e : Exchange) :
    shape (es ++ [e]) = (shape es).bind fun o => shapeStep o e := by
  rw [shape, List.foldl_append]
  rfl

/-- An exchange presented in a state of the invariant is in order, and leaves the transaction open exactly when the
reaction leaves TXN_OPEN = 1 (R117, R119, R120, R122, R129). -/
theorem shapeStep_presented {s : State} {e : Exchange} {o : Bool} (h : s.Inv) (ho : s.txnOpen = true → o = true)
    (he : e.phase = s.seq) (hq : s.seq = .sendStart ∨ s.seq = .sendBody ∨ s.seq = .sendEnd) :
    shapeStep o e =
      some (if s.seq = .sendStart then e.response == .ok
        else if s.seq = .sendBody then s.txnOpen && e.response == .ok else false) := by
  rcases hq with hq | hq | hq
  · simp [shapeStep, he, hq]
  · have hopen := h.body_open (.inr (.inl hq))
    simp [shapeStep, he, hq, hopen, ho hopen]
  · simp [shapeStep, he, hq, ho (h.body_open (.inr (.inr hq)))]

/-- An exchange keeps the transaction shape (R129). -/
theorem exchange_keeps_shape {f : Frame} {s t : State} (h : s.Inv) (hshape : s.Shaped) (hs : exchange f s = .next t) :
    t.Shaped := by
  obtain ⟨o, hsome, ho⟩ := hshape
  obtain ⟨r, hq, -, hsent, -, -, hopen⟩ := exchange_records hs
  refine ⟨t.txnOpen, ?_, id⟩
  rw [hsent, shape_append, hsome, hopen]
  exact shapeStep_presented h ho rfl hq

/-- Settles O52: an exchange keeps the shape and records the phase it was presented in, where the invariant fixes
TXN_OPEN; every other step sends nothing and sets TXN_OPEN nowhere. -/
theorem exchangesFormTransactions : Obligations.ExchangesFormTransactions := by
  intro s t h hshape hs
  rcases step_exchange_or_quiet hs with hex | ⟨hsent, -, hopen⟩
  · refine ⟨exchange_keeps_shape h hshape hex, fun e he => ?_⟩
    obtain ⟨r, -, -, hsent, -⟩ := exchange_records hex
    obtain rfl : _ = e := List.singleton_inj.1 (List.append_cancel_left (hsent.symm.trans he))
    exact ⟨h.start_closed, fun hphase => h.body_open (.inr hphase)⟩
  · obtain ⟨o, hsome, ho⟩ := hshape
    refine ⟨⟨o, hsent ▸ hsome, fun ht => ?_⟩, fun e he => ?_⟩
    · rcases hopen with hopen | ⟨hclosed, -⟩
      · exact ho (hopen ▸ ht)
      · cases hclosed.symm.trans ht
    · exact absurd (he.symm.trans hsent) (by simp)

end Sys2Proof.Machine

namespace Sys2Proof.Machine

/-! ## Sequence errors -/

/-- Settles O12: the check of each command is the sequence check first, and it fails. -/
theorem sequenceErrorsEndAtOnce : Obligations.SequenceErrorsEndAtOnce := by
  intro s hr hb
  refine ⟨fun ht => ?_, fun ht => ?_, fun w ht => ?_⟩
  · have hc : checkTxnBegin s = some (sequenceError 0) := if_pos ht
    exact congrArg Host.Outcome.next (accept_err _ _ hr hb hc)
  · have hc : checkTxnEnd s = some (sequenceError 1) := if_neg (by simp [ht])
    exact congrArg Host.Outcome.next (accept_err _ _ hr hb hc)
  · have hseq := checkBody_some ht
    have hsub : checkSubcommand w s = some ⟨.sequence, if w then 2 else 3⟩ := by rw [checkSubcommand, hseq]
    have hraw : checkRawFrame w s = some ⟨.sequence, if w then 2 else 3⟩ := by rw [checkRawFrame, hseq]
    have refused : ∀ (op : Byte) (c : State → Option CmdError) (st : State → State),
        c s = some ⟨.sequence, if w then 2 else 3⟩ → Host.Outcome.next (φ := Fault) (ρ := Refusal)
          (accept (requestWord op w) c st s) =
            .next (erroredAt (wordOfCommand op w) ⟨.sequence, if w then 2 else 3⟩ s) := fun op c st hc => by
      rw [accept_err _ _ hr hb hc, requestWord_eq]
    exact ⟨refused _ _ _ hsub, refused _ _ _ hseq, refused _ _ _ hseq, refused _ _ _ hseq, refused _ _ _ hseq,
      refused _ _ _ hseq, refused _ _ _ hseq, refused _ _ _ hseq, refused _ _ _ hseq, refused _ _ _ hraw⟩

end Sys2Proof.Machine

namespace Sys2Proof.Machine

/-! ## Exchanges answered -/

/-- Settles O22: the exchange of START answered OK is `startAcked`. -/
theorem startFrameAcknowledged : Obligations.StartFrameAcknowledged := by
  intro s rest hr hq hf hin
  rw [exec_frame_ok (i := .frameStart) rfl (hf.trans frameOfBytes_start) hr (.inl hq) hin,
    respond_ok_start (s := answeredBy .ok rest s) hq]
  rfl

/-- Settles O23: the exchange of END answered OK is `endAcked`. -/
theorem endFrameAcknowledged : Obligations.EndFrameAcknowledged := by
  intro s rest hr hq hf hin
  rw [exec_frame_ok (i := .frameEnd) rfl (hf.trans frameOfBytes_end) hr (.inr (.inr hq)) hin,
    respond_ok_end (s := answeredBy .ok rest s) hq]
  rfl

/-- A failure that answers a presented exchange: WRITE_FAIL, or a failed read where a reply is expected (R123). -/
theorem permitted_failure {q : SeqState} {r : Response}
    (h : r = .writeFail ∨ (q = .sendBody ∧ (r = .readTimeout ∨ r = .readFail))) :
    permitted (q == .sendBody) r = true ∧ r ≠ .ok := by
  rcases h with rfl | ⟨rfl, rfl | rfl⟩
  · exact ⟨by simp [permitted], by decide⟩
  · decide
  · decide

/-- DETAIL of a failed exchange by its numbers, phase * 4 + kind (R122, R132). -/
theorem transportDetail_eq {q : SeqState} {r : Response} (hq : q = .sendStart ∨ q = .sendBody ∨ q = .sendEnd)
    (hr : r ≠ .ok) :
    transportDetail q r =
      BitVec.ofNat 4 ((if q = .sendStart then 0 else if q = .sendBody then 1 else 2) * 4 +
        (if r = .writeFail then 0 else if r = .readTimeout then 1 else 2)) := by
  rcases hq with rfl | rfl | rfl <;> cases r <;> revert hr <;> decide

/-- Settles O25: the reaction to the failure is `abort`, with the phase the exchange was presented in. -/
theorem failedExchangeAborts : Obligations.FailedExchangeAborts := by
  intro s r rest hr hq hfail hin phase kind
  obtain ⟨hp, hok⟩ := permitted_failure hfail
  have hport : s.portRequest.isSome = true := by
    rw [portRequest_some.2 ⟨hr, hq, rfl⟩]
    rfl
  rw [step_presented hport (.inr (.inr ⟨r, rest, hin⟩)), exchange_scheduled hr hq hin hp, respond_fail _ hok, abort,
    transportDetail_eq (q := (answeredBy r rest s).seq) hq hok]
  rfl

/-- The reaction to a response neither reads nor writes the draw counter (R117, R119, R120, R122). -/
theorem respond_draws (r : Response) {s : State} (d : Nat)
    (hq : s.seq = .sendStart ∨ s.seq = .sendBody ∨ s.seq = .sendEnd) :
    respond r { s with draws := d } = { respond r s with draws := d } := by
  by_cases hok : r = .ok
  · subst hok
    rcases hq with hq | hq | hq
    · rw [respond_ok_start hq, respond_ok_start (s := { s with draws := d }) hq]
      simp only [startAcked]
      split <;> rfl
    · rw [respond_ok_body hq, respond_ok_body (s := { s with draws := d }) hq]
      simp only [bodyAckedStep]
      split <;> rfl
    · rw [respond_ok_end hq, respond_ok_end (s := { s with draws := d }) hq]
      rfl
  · rw [respond_fail _ hok, respond_fail _ hok]
    rfl

/-- Settles O26: the free answer is permitted, and taking it differs from taking a scheduled one in the draw alone. -/
theorem unscheduledExchangeIsAnswered : Obligations.UnscheduledExchangeIsAnswered := by
  intro i s q hi hport hin
  have hp := permitted_answerOfDraw q.expectReply (Config.freeAnswer s.draws)
  generalize hr : answerOfDraw q.expectReply (Config.freeAnswer s.draws) = r at hp
  obtain ⟨hrst, hq, rfl⟩ := portRequest_some.1 hport
  have hscheduled := exchange_scheduled (s := { s with inbox := [.respond r] }) (rest := []) hrst hq rfl hp
  have hfree := exchange_answered (i := s.inbox) (r := r) hport ((takeAnswer_free _ hin).trans (by rw [hr])) hp
  refine ⟨r, _, (exec_frame hi _).trans hscheduled, hp, (exec_frame hi s).trans (hfree.trans ?_)⟩
  rw [hin, ← respond_draws _ _ (s := answeredBy r [] { s with inbox := [.respond r] }) hq]
  rfl

end Sys2Proof.Machine

namespace Sys2Proof.Machine

/-! ## Moves nobody has -/

/-- A scheduled response with no request presented has no move (R123, log 2). -/
theorem step_respond_unpresented {s : State} {r : Response} {rest : List Event} (hi : s.inbox = .respond r :: rest)
    (hp : s.portRequest = none) : step s = .fault .noMove := by
  rw [step, nextMove, hi]
  simp [hp]

/-- A scheduled response that the presented request does not permit has no move (R123, log 2). -/
theorem step_respond_not_permitted {s : State} {q : PortRequest} {r : Response} {rest : List Event}
    (hi : s.inbox = .respond r :: rest) (hq : s.portRequest = some q) (hp : permitted q.expectReply r = false) :
    step s = .fault .noMove := by
  obtain ⟨-, -, rfl⟩ := portRequest_some.1 hq
  rw [step_presented (by rw [hq]; rfl) (.inr (.inr ⟨r, rest, hi⟩)), exchange, hq]
  simp [takeAnswer_scheduled _ hi, hp]

/-- A scheduled response that the presented request permits is taken (R123). -/
theorem step_respond_permitted {s : State} {q : PortRequest} {r : Response} {rest : List Event}
    (hi : s.inbox = .respond r :: rest) (hq : s.portRequest = some q) (hp : permitted q.expectReply r = true) :
    step s = .next (respond r (answeredBy r rest s)) := by
  obtain ⟨hr, hsend, rfl⟩ := portRequest_some.1 hq
  rw [step_presented (by rw [hq]; rfl) (.inr (.inr ⟨r, rest, hi⟩)), exchange_scheduled hr hsend hi hp]

/-- A scheduled BUILD move outside BUILD, or while `rst` is asserted, has no move (R161, log 2). -/
theorem step_build_stuck {s : State} {rest : List Event} (hi : s.inbox = .build :: rest)
    (h : s.seq ≠ .build ∨ s.rst = true) : step s = .fault .noMove := by
  have hne : ¬ (s.seq = .build ∧ s.rst = false) := by
    rintro ⟨hq, hr⟩
    rcases h with h | h
    · exact h hq
    · cases hr.symm.trans h
  rw [step, nextMove, hi]
  simp only [hne, if_false]

/-- Settles O27: START and END expect no reply, so a failed read does not answer them. -/
theorem responseWithoutAMoveIsStuck : Obligations.ResponseWithoutAMoveIsStuck := by
  rintro s r rest hi (hp | ⟨hq, hr⟩)
  · exact step_respond_unpresented hi hp
  · cases hp : s.portRequest with
    | none => exact step_respond_unpresented hi hp
    | some q =>
      refine step_respond_not_permitted hi hp ?_
      obtain ⟨-, -, rfl⟩ := portRequest_some.1 hp
      rcases hq with hq | hq <;> rcases hr with rfl | rfl <;> simp [permitted, hq]

/-- In a state of a run the agent that owes a move makes it (R161). -/
theorem step_owed_goes_on {s u : State} (h : s.Inv) (hu : Owed s u) : ∃ t, step s = .next t := by
  by_cases hq : s.seq = .idle
  · exact ⟨u, by rw [step_owed hu, if_pos (.inr hq)]⟩
  · obtain ⟨t, ht, -⟩ := owed_progress h hq hu
    exact ⟨t, ht⟩

/-- Settles O57: by the move listed next; requester and `rst` always have theirs, the owed move and a BUILD move in BUILD
go on. -/
theorem invariantStatesStep : Obligations.InvariantStatesStep := by
  intro s h
  obtain hi | ⟨e, rest, hi⟩ : s.inbox = [] ∨ ∃ e rest, s.inbox = e :: rest := by cases s.inbox <;> simp
  · exact .inl (step_owed_goes_on h (.inl ⟨hi, rfl⟩))
  cases e with
  | duty => exact .inl (step_owed_goes_on h (.inr ⟨rest, hi, rfl⟩))
  | waitIdle => exact .inl ⟨_, step_waitIdle hi⟩
  | read a => exact .inl ⟨_, step_read hi⟩
  | write a v =>
    by_cases ha : a.toNat / 4 = 0
    · exact .inl ⟨_, (step_cmd hi ha).trans (runRequest_eq v _)⟩
    · exact .inl ⟨_, step_write hi ha⟩
  | rst l => exact .inl ⟨_, step_rst hi⟩
  | respond r =>
    cases hport : s.portRequest with
    | none => exact .inr ⟨step_respond_unpresented hi hport, .inl ⟨r, rest, hi, .inl rfl⟩⟩
    | some q =>
      cases hp : permitted q.expectReply r with
      | true => exact .inl ⟨_, step_respond_permitted hi hport hp⟩
      | false => exact .inr ⟨step_respond_not_permitted hi hport hp, .inl ⟨r, rest, hi, .inr ⟨q, rfl, hp⟩⟩⟩
  | build =>
    by_cases hb : s.seq = .build ∧ s.rst = false
    · obtain ⟨hq, hr⟩ := hb
      obtain ⟨t, ht⟩ := buildStep_goes_on (h.records rest s.draws s.sent s.reads) hq
      exact .inl ⟨t, (step_build hr hq hi).trans ht⟩
    · have hstuck : s.seq ≠ .build ∨ s.rst = true := by simpa [imp_iff_not_or] using hb
      exact .inr ⟨step_build_stuck hi hstuck, .inr ⟨rest, hi, hstuck⟩⟩

/-- Settles O6: the encoder's move is the BUILD step, scheduled or owed, and IDLE owes nothing. -/
theorem stepTakesTheBuildMove : Obligations.StepTakesTheBuildMove := by
  intro s hr
  have build_owed : ∀ u, Owed s u → s.seq = .build → step s = buildStep u := fun u hu hq => by
    rw [step_owed hu, if_neg (by simp [hr, hq]), if_pos hq]
  have idle_owed : ∀ u, Owed s u → s.seq = .idle → step s = .next u := fun u hu hq => by
    rw [step_owed hu, if_pos (.inr hq)]
  refine ⟨fun hq => ⟨fun rest hi => step_build hr hq hi, fun rest hi => ?_, fun hi => ?_⟩,
    fun hq => ⟨fun hi => ?_, fun rest hi => ?_⟩⟩
  · exact build_owed _ (.inr ⟨rest, hi, rfl⟩) hq
  · exact build_owed s (.inl ⟨hi, rfl⟩) hq
  · exact idle_owed s (.inl ⟨hi, rfl⟩) hq
  · exact idle_owed _ (.inr ⟨rest, hi, rfl⟩) hq

end Sys2Proof.Machine

namespace Sys2Proof.Machine

/-! ## Reset (R147 to R149) -/

/-- Asserting `rst` resets the registers and holds the line, whatever its level was (R149, log 6). -/
theorem step_rst_assert {s : State} {rest : List Event} (hi : s.inbox = .rst true :: rest) :
    step s = .next { resetRegisters { s with inbox := rest } with rst := true } := by
  rw [step_rst hi, driveReset, if_pos rfl]

/-- Releasing an asserted `rst` leaves the reset values with the line low (R148). -/
theorem step_rst_release {s : State} {rest : List Event} (hr : s.rst = true) (hi : s.inbox = .rst false :: rest) :
    step s = .next { resetRegisters { s with inbox := rest } with rst := false } := by
  rw [step_rst hi, driveReset, if_neg Bool.false_ne_true, if_pos hr]

/-- After reset every written-since-reset mark is clear (R43, R148). -/
theorem reset_cb_unwritten (i : Nat) (hi : i < 126) : State.reset.cb[i].written = false := by
  simp [State.reset, CbEntry.atReset]

/-- After reset the payload buffer and the frame buffer hold zeros (R148). -/
theorem reset_buffers_zero (i : Nat) (hi : i < 64) : State.reset.pb[i] = 0 ∧ State.reset.fb[i] = 0 := by
  simp [State.reset]

/-- After reset STATUS holds 0 in every field (R148). -/
theorem reset_statusWord : State.reset.statusWord = 0 := by decide

/-- A requester write, to CMD or to any other word, is ignored while `rst` is asserted (R147). -/
theorem step_write_held {s : State} {a : Offset} {v : Word} {rest : List Event} (hr : s.rst = true)
    (hi : s.inbox = .write a v :: rest) : step s = .next { s with inbox := rest } := by
  by_cases ha : a.toNat / 4 = 0
  · rw [step_cmd hi ha, runRequest_eq, accept_rst (s := { s with inbox := rest }) v _ _ hr]
  · rw [step_write hi ha, requesterWrite, if_pos hr]

/-- Settles O48: asserting `rst` presents no request, so a response that comes later meets none. -/
theorem resetWithdrawsTheRequest : Obligations.ResetWithdrawsTheRequest := by
  intro s rest hi
  have withdrawn : ∀ t : State, t.rst = true → t.portRequest = none := fun _ hr => portRequest_none.2 (.inl hr)
  exact ⟨_, step_rst_assert hi, rfl, withdrawn _ rfl, rfl, rfl, rfl, rfl, rfl, rfl, rfl,
    fun _ _ hlate => step_respond_unpresented hlate (withdrawn _ rfl)⟩

/-- Settles O49: a held write is ignored, a read writes records alone, and no agent owes or has a move. -/
theorem heldInResetNothingMoves : Obligations.HeldInResetNothingMoves := by
  intro s hr
  refine ⟨fun a v rest hi => step_write_held hr hi, fun a rest hi => ?_, fun hi => ?_,
    fun rest hi => step_build_stuck hi (.inr hr)⟩
  · obtain ⟨t, ht, hregs, hsent, -⟩ := readsHaveNoSideEffect s a rest hi
    exact ⟨t, ht, hregs, hsent⟩
  · rw [step_owed (.inl ⟨hi, rfl⟩), if_pos (.inl hr)]

/-- Settles O47: the release leaves the registers of `State.reset`, in the order of R148, and keeps the fault mark. -/
theorem resetValues : Obligations.ResetValues := by
  have noRequest : ∀ t : State, t.seq = .idle → t.portRequest = none := fun _ hq => portRequest_none.2 (.inr (.inl hq))
  refine ⟨fun s rest hr hi => ?_, rfl, rfl, rfl, noRequest _ rfl⟩
  refine ⟨_, step_rst_release hr hi, rfl, rfl, rfl, noRequest _ rfl, rfl, reset_cb_unwritten, ?_⟩
  exact ⟨rfl, rfl, rfl, rfl, rfl, rfl, rfl, rfl, reset_statusWord, rfl, rfl, rfl, rfl, rfl, rfl, rfl, rfl, rfl, rfl, rfl, rfl,
    rfl, rfl, rfl, reset_buffers_zero⟩

/-- Settles O51: the reset state is its own reset, and a run that has sent nothing has no transaction open. -/
theorem resetMeetsTheInvariant : Obligations.ResetMeetsTheInvariant :=
  ⟨resetRegisters_inv State.reset false, false, rfl, by decide⟩

end Sys2Proof.Machine
